-- ==== Sys2Proof/Word.lean ====
section
/-! DEFINITION. The word types of the block (spec/00_scope.md R15, R16; spec/30_encoding.md R92). -/

namespace Sys2Proof

/-- A value on the register port: 32 bits, unsigned (R15, R60). -/
abbrev Word := BitVec 32

/-- A byte of the wire, of a payload or of `HBUF` (R16). -/
abbrev Byte := BitVec 8

/-- A transaction word `T[38:0] = {we, a[5:0], wdata[31:0]}` (R92). -/
abbrev TxnWord := BitVec 39

/-- A register word index `a[5:0]` (R60, R61). -/
abbrev RegIndex := BitVec 6

end Sys2Proof
end

