-- ==== Sys2Proof/Machine/Crc32.lean ====
section
/-! DEFINITION. The checksum function (spec/40_crc32.md R130 to R133). Its parameters are fixed, not
arguments of the model (spec/00_scope.md R12). -/

namespace Sys2Proof.Machine

/-- The generator polynomial in reflected form (R130). -/
def crcPoly : Word := 0xEDB88320#32

/-- The initial register value (R130). -/
def crcInit : Word := 0xFFFFFFFF#32

/-- The final XOR (R130). -/
def crcXorOut : Word := 0xFFFFFFFF#32

/-- One of the eight steps of `crc_update` (R131). -/
def crcShift (r : Word) : Word :=
  if r.getLsbD 0 then (r >>> 1) ^^^ crcPoly else r >>> 1

/-- `k` steps. -/
def crcShifts : Nat → Word → Word
  | 0, r => r
  | k + 1, r => crcShifts k (crcShift r)

/-- The byte step `crc_update(acc, b)` (R131). -/
def crcUpdate (acc : Word) (b : Byte) : Word := crcShifts 8 (acc ^^^ b.setWidth 32)

/-- Absorbing the bytes of a list in order (the loop of R133). -/
def crcAbsorb (acc : Word) (L : List Byte) : Word := L.foldl crcUpdate acc

/-- `crc32(L)`, the source's `checksum(bytes)` (R133). -/
def crc32 (L : List Byte) : Word := crcAbsorb crcInit L ^^^ crcXorOut

/-- `TAB[i]`: the eight shift steps applied to `zext_32(i)` (R132). -/
def crcTab (i : Byte) : Word := crcUpdate (i.setWidth 32) 0#8

end Sys2Proof.Machine
end

