-- ==== Sys2Proof/Config.lean ====
section
/-! DEFINITION. The build-time parameters of the block and the constants derived from them
(spec/00_scope.md R9 to R11). Both parameters range over every value the spec offers: a statement
about every state is a statement about all four builds (log entry 1). -/

namespace Sys2Proof

/-- Parameter `ENDIAN`: the order of the bytes of a multi-byte header field (R9). -/
inductive Endian where
  | le
  | be
  deriving DecidableEq, Repr

/-- Parameter `TYPE_BYTES`: the bytes the `type` field takes in the header, 1 or 4 (R10). -/
inductive TypeBytes where
  | one
  | four
  deriving DecidableEq, Repr

/-- The two parameters a build of the block has (R9, R10). -/
structure Params where
  endian    : Endian
  typeBytes : TypeBytes
  deriving DecidableEq, Repr

/-- The spec's defaults: `ENDIAN = LE` (R9), `TYPE_BYTES = 1` (R10). -/
def Params.defaults : Params := ⟨.le, .one⟩

/-- `TYPE_BYTES` as a number (R10). -/
def Params.typeSize (p : Params) : Nat :=
  match p.typeBytes with
  | .one => 1
  | .four => 4

/-- `W_T = 8 * TYPE_BYTES` (R11). -/
def Params.typeWidth (p : Params) : Nat := 8 * p.typeSize

/-- `HDR_SIZE = TYPE_BYTES + 12` (R11). -/
def Params.hdrSize (p : Params) : Nat := p.typeSize + 12

/-- `SEQ_OFF = TYPE_BYTES` (R11). -/
def Params.seqOff (p : Params) : Nat := p.typeSize

/-- `LEN_OFF = TYPE_BYTES + 4` (R11). -/
def Params.lenOff (p : Params) : Nat := p.typeSize + 4

/-- `CSUM_OFF = TYPE_BYTES + 8` (R11). -/
def Params.csumOff (p : Params) : Nat := p.typeSize + 8

end Sys2Proof
end

