-- ==== Sys2Proof/Syntax.lean ====
section
/-! DEFINITION. The transactions of the register port, the "instructions" of this hardware
(spec/30_encoding.md R92, R102; spec/opcode_table.json). One constructor per mnemonic of the table;
the four rows each of `WR_RSVD` and `RD_RSVD` are one range of register indices cut to fit match and
mask, so each is one constructor with the index as its operand. Bits a transaction ignores are
operands too, so that no bit of a word is dropped by decoding. -/

namespace Sys2Proof

/-- `MODE`, the flow that is open (R28). It is in this file because it selects among the five rows of
a `DIN` write (R102). Values 5 to 7 are never reached (R28, R51) and do not exist here. -/
inductive Mode where
  | idle
  | raw
  | rxh
  | rxp
  | txp
  deriving DecidableEq, Repr

/-- One register-port transaction. `wdata` is the whole data word; where a rule uses only
`wdata[7:0]`, `hi` is `wdata[31:8]`, which the block ignores (R100). The `wdata` of a read is ignored
(R92). -/
inductive Instr where
  /-- `WR HDR_TYPE` (R156). -/
  | wrHdrType (wdata : Word)
  /-- `WR HDR_SEQ` (R157). -/
  | wrHdrSeq (wdata : Word)
  /-- `WR HDR_LEN` (R158). -/
  | wrHdrLen (wdata : Word)
  /-- `WR HDR_CSUM` (R159). -/
  | wrHdrCsum (wdata : Word)
  /-- Command 0x00 (R220). -/
  | nop (hi : BitVec 24)
  /-- Command 0x01 (R135). -/
  | crcStart (hi : BitVec 24)
  /-- Command 0x02 (R164). -/
  | enc (hi : BitVec 24)
  /-- Command 0x03 (R165). -/
  | enc0 (hi : BitVec 24)
  /-- Command 0x04 (R181). -/
  | rxBegin (hi : BitVec 24)
  /-- Command 0x05 (R184). -/
  | rxEnd (hi : BitVec 24)
  /-- Command 0x06 (R201). -/
  | txBegin (hi : BitVec 24)
  /-- Command 0x07 (R203). -/
  | txEnd (hi : BitVec 24)
  /-- Command 0x08 (R221). -/
  | clr (hi : BitVec 24)
  /-- Commands 0x09 to 0xFF (R222). -/
  | cmdRsvd (hi : BitVec 24) (op : Byte)
  /-- Write to the read-only `STATUS` (R227). -/
  | wrStatus (wdata : Word)
  /-- `DIN` write in `IDLE` (R223). -/
  | pushIdle (hi : BitVec 24) (b : Byte)
  /-- `DIN` write in `RAW` (R136). -/
  | pushRaw (hi : BitVec 24) (b : Byte)
  /-- `DIN` write in `RXH` (R182). -/
  | pushRxh (hi : BitVec 24) (b : Byte)
  /-- `DIN` write in `RXP` (R183). -/
  | pushRxp (hi : BitVec 24) (b : Byte)
  /-- `DIN` write in `TXP` (R202). -/
  | pushTxp (hi : BitVec 24) (b : Byte)
  /-- Write to the read-only `DOUT` (R227). -/
  | wrDout (wdata : Word)
  /-- Write to the read-only `CRC_OUT` (R227). -/
  | wrCrcOut (wdata : Word)
  /-- Write to the read-only `CRC_ACC` (R227). -/
  | wrCrcAcc (wdata : Word)
  /-- Write to the read-only `HCNT` (R227). -/
  | wrHcnt (wdata : Word)
  /-- Write to the read-only `PCNT` (R227). -/
  | wrPcnt (wdata : Word)
  /-- Write to the read-only `CONFIG` (R227). -/
  | wrConfig (wdata : Word)
  /-- Write to a reserved index 13 to 63 (R228). -/
  | wrRsvd (a : RegIndex) (wdata : Word)
  /-- `RD HDR_TYPE` (R160). -/
  | rdHdrType (wdata : Word)
  /-- `RD HDR_SEQ` (R161). -/
  | rdHdrSeq (wdata : Word)
  /-- `RD HDR_LEN` (R162). -/
  | rdHdrLen (wdata : Word)
  /-- `RD HDR_CSUM` (R163). -/
  | rdHdrCsum (wdata : Word)
  /-- Read of the write-only `CMD` (R226). -/
  | rdCmd (wdata : Word)
  /-- `RD STATUS` (R224). -/
  | rdStatus (wdata : Word)
  /-- Read of the write-only `DIN` (R226). -/
  | rdDin (wdata : Word)
  /-- `RD DOUT` (R166). -/
  | pop (wdata : Word)
  /-- `RD CRC_OUT` (R137). -/
  | rdCrcOut (wdata : Word)
  /-- `RD CRC_ACC` (R138). -/
  | rdCrcAcc (wdata : Word)
  /-- `RD HCNT` (R167). -/
  | rdHcnt (wdata : Word)
  /-- `RD PCNT` (R185). -/
  | rdPcnt (wdata : Word)
  /-- `RD CONFIG` (R225). -/
  | rdConfig (wdata : Word)
  /-- Read of a reserved index 13 to 63 (R228). -/
  | rdRsvd (a : RegIndex) (wdata : Word)
  deriving DecidableEq, Repr

end Sys2Proof
end

