-- ==== Sys2Proof/WellFormed.lean ====
section
/-! DEFINITION. Which transactions are well formed: the ranges spec/30_encoding.md R102 puts on an
operand. Every other operand may have every value of its width. -/

namespace Sys2Proof

/-- A reserved command code is 0x09 to 0xFF (R101, R222). -/
def reservedOp (op : Byte) : Bool := 9 ≤ op.toNat

/-- A reserved register index is 13 to 63 (R61, R228). -/
def reservedIndex (a : RegIndex) : Bool := 13 ≤ a.toNat

/-- The conditions column of R102. -/
def Instr.wf : Instr → Bool
  | .wrHdrType _ => true
  | .wrHdrSeq _ => true
  | .wrHdrLen _ => true
  | .wrHdrCsum _ => true
  | .nop _ => true
  | .crcStart _ => true
  | .enc _ => true
  | .enc0 _ => true
  | .rxBegin _ => true
  | .rxEnd _ => true
  | .txBegin _ => true
  | .txEnd _ => true
  | .clr _ => true
  | .cmdRsvd _ op => reservedOp op
  | .wrStatus _ => true
  | .pushIdle _ _ => true
  | .pushRaw _ _ => true
  | .pushRxh _ _ => true
  | .pushRxp _ _ => true
  | .pushTxp _ _ => true
  | .wrDout _ => true
  | .wrCrcOut _ => true
  | .wrCrcAcc _ => true
  | .wrHcnt _ => true
  | .wrPcnt _ => true
  | .wrConfig _ => true
  | .wrRsvd a _ => reservedIndex a
  | .rdHdrType _ => true
  | .rdHdrSeq _ => true
  | .rdHdrLen _ => true
  | .rdHdrCsum _ => true
  | .rdCmd _ => true
  | .rdStatus _ => true
  | .rdDin _ => true
  | .pop _ => true
  | .rdCrcOut _ => true
  | .rdCrcAcc _ => true
  | .rdHcnt _ => true
  | .rdPcnt _ => true
  | .rdConfig _ => true
  | .rdRsvd a _ => reservedIndex a

/-- Whether a transaction is a row of R102 in mode `m`: a `DIN` write belongs to the row whose
condition names `m`, every other transaction to its row in every mode. -/
def Instr.inMode (m : Mode) : Instr → Bool
  | .wrHdrType _ => true
  | .wrHdrSeq _ => true
  | .wrHdrLen _ => true
  | .wrHdrCsum _ => true
  | .nop _ => true
  | .crcStart _ => true
  | .enc _ => true
  | .enc0 _ => true
  | .rxBegin _ => true
  | .rxEnd _ => true
  | .txBegin _ => true
  | .txEnd _ => true
  | .clr _ => true
  | .cmdRsvd _ _ => true
  | .wrStatus _ => true
  | .pushIdle _ _ => m == .idle
  | .pushRaw _ _ => m == .raw
  | .pushRxh _ _ => m == .rxh
  | .pushRxp _ _ => m == .rxp
  | .pushTxp _ _ => m == .txp
  | .wrDout _ => true
  | .wrCrcOut _ => true
  | .wrCrcAcc _ => true
  | .wrHcnt _ => true
  | .wrPcnt _ => true
  | .wrConfig _ => true
  | .wrRsvd _ _ => true
  | .rdHdrType _ => true
  | .rdHdrSeq _ => true
  | .rdHdrLen _ => true
  | .rdHdrCsum _ => true
  | .rdCmd _ => true
  | .rdStatus _ => true
  | .rdDin _ => true
  | .pop _ => true
  | .rdCrcOut _ => true
  | .rdCrcAcc _ => true
  | .rdHcnt _ => true
  | .rdPcnt _ => true
  | .rdConfig _ => true
  | .rdRsvd _ _ => true

end Sys2Proof
end

