-- ==== Sys2Proof/Decode.lean ====
section
/-! DEFINITION. Decoding and encoding of transaction words (spec/30_encoding.md R92, R100 to R102).
"The decoder tests `we`, then `a`, then (for `a = 4`) `wdata[7:0]`, then (for `a = 6` writes) `MODE`"
(R102): `MODE` is therefore an argument of the decoder. Every 39-bit word decodes; the one thing
rejected is a number that is no 39-bit word. -/

namespace Sys2Proof

/-- Bit 38 of a transaction word: 1 = write (R92). -/
def weField (T : TxnWord) : Bool := T.getLsbD 38

/-- Bits 37:32, the register word index (R92). -/
def indexField (T : TxnWord) : RegIndex := T.extractLsb' 32 6

/-- Bits 31:0, the write data (R92). -/
def wdataField (T : TxnWord) : Word := T.extractLsb' 0 32

/-- `wdata[7:0]`: the operand of a `CMD` or `DIN` write (R100). -/
def lowByte (w : Word) : Byte := w.extractLsb' 0 8

/-- `wdata[31:8]`: what a `CMD` or `DIN` write discards (R100). -/
def highBits (w : Word) : BitVec 24 := w.extractLsb' 8 24

/-- `{wdata[31:8], wdata[7:0]}`: a data word from its two parts (R100). -/
def joinByte (hi : BitVec 24) (b : Byte) : Word := hi ++ b

/-- The command of a `CMD` write (R101). -/
def decodeCommand (hi : BitVec 24) (op : Byte) : Instr :=
  match op.toNat with
  | 0 => .nop hi
  | 1 => .crcStart hi
  | 2 => .enc hi
  | 3 => .enc0 hi
  | 4 => .rxBegin hi
  | 5 => .rxEnd hi
  | 6 => .txBegin hi
  | 7 => .txEnd hi
  | 8 => .clr hi
  | _ => .cmdRsvd hi op

/-- The row of a `DIN` write, selected by `MODE` (R102). -/
def decodePush (m : Mode) (hi : BitVec 24) (b : Byte) : Instr :=
  match m with
  | .idle => .pushIdle hi b
  | .raw => .pushRaw hi b
  | .rxh => .pushRxh hi b
  | .rxp => .pushRxp hi b
  | .txp => .pushTxp hi b

/-- A write, by register index (R102, rows with `we = 1`). -/
def decodeWrite (m : Mode) (a : RegIndex) (wdata : Word) : Instr :=
  match a.toNat with
  | 0 => .wrHdrType wdata
  | 1 => .wrHdrSeq wdata
  | 2 => .wrHdrLen wdata
  | 3 => .wrHdrCsum wdata
  | 4 => decodeCommand (highBits wdata) (lowByte wdata)
  | 5 => .wrStatus wdata
  | 6 => decodePush m (highBits wdata) (lowByte wdata)
  | 7 => .wrDout wdata
  | 8 => .wrCrcOut wdata
  | 9 => .wrCrcAcc wdata
  | 10 => .wrHcnt wdata
  | 11 => .wrPcnt wdata
  | 12 => .wrConfig wdata
  | _ => .wrRsvd a wdata

/-- A read, by register index (R102, rows with `we = 0`). -/
def decodeRead (a : RegIndex) (wdata : Word) : Instr :=
  match a.toNat with
  | 0 => .rdHdrType wdata
  | 1 => .rdHdrSeq wdata
  | 2 => .rdHdrLen wdata
  | 3 => .rdHdrCsum wdata
  | 4 => .rdCmd wdata
  | 5 => .rdStatus wdata
  | 6 => .rdDin wdata
  | 7 => .pop wdata
  | 8 => .rdCrcOut wdata
  | 9 => .rdCrcAcc wdata
  | 10 => .rdHcnt wdata
  | 11 => .rdPcnt wdata
  | 12 => .rdConfig wdata
  | _ => .rdRsvd a wdata

/-- The decoder: total on all `2^39` words in every mode (R102, R232). -/
def decode (m : Mode) (T : TxnWord) : Instr :=
  if weField T then decodeWrite m (indexField T) (wdataField T)
  else decodeRead (indexField T) (wdataField T)

/-- Why a number is not decoded. -/
inductive DecodeError where
  /-- It has a bit above bit 38, so it is no transaction word: there is one length, 39 bits (R92,
  R107). Nothing of this kind can be put on the port. Safe. -/
  | widerThan39Bits
  deriving DecidableEq, Repr

/-- The decoder on any number: a transaction word, or rejected by name. -/
def decodeNat (m : Mode) (w : Nat) : Except DecodeError Instr :=
  if w < 2 ^ 39 then .ok (decode m (BitVec.ofNat 39 w)) else .error .widerThan39Bits

/-- The instruction the decoder reads from a word numbered as spec/opcode_table.json numbers its bits.
The table's five `PUSH` rows are one word; it is read here in the mode after reset, `IDLE` (log
entry 4). -/
def decodeTableWord (nbits w : Nat) : Option Instr :=
  match decodeNat .idle (w % 2 ^ nbits) with
  | .ok i => some i
  | .error _ => none

/-- `{we, a[5:0], wdata[31:0]}` (R92). -/
def packWord (we : Bool) (a : RegIndex) (wdata : Word) : TxnWord :=
  BitVec.ofBool we ++ a ++ wdata

/-- The transaction word of an instruction (R92, R101, R102). -/
def encode : Instr → TxnWord
  | .wrHdrType wdata => packWord true 0 wdata
  | .wrHdrSeq wdata => packWord true 1 wdata
  | .wrHdrLen wdata => packWord true 2 wdata
  | .wrHdrCsum wdata => packWord true 3 wdata
  | .nop hi => packWord true 4 (joinByte hi 0#8)
  | .crcStart hi => packWord true 4 (joinByte hi 1#8)
  | .enc hi => packWord true 4 (joinByte hi 2#8)
  | .enc0 hi => packWord true 4 (joinByte hi 3#8)
  | .rxBegin hi => packWord true 4 (joinByte hi 4#8)
  | .rxEnd hi => packWord true 4 (joinByte hi 5#8)
  | .txBegin hi => packWord true 4 (joinByte hi 6#8)
  | .txEnd hi => packWord true 4 (joinByte hi 7#8)
  | .clr hi => packWord true 4 (joinByte hi 8#8)
  | .cmdRsvd hi op => packWord true 4 (joinByte hi op)
  | .wrStatus wdata => packWord true 5 wdata
  | .pushIdle hi b => packWord true 6 (joinByte hi b)
  | .pushRaw hi b => packWord true 6 (joinByte hi b)
  | .pushRxh hi b => packWord true 6 (joinByte hi b)
  | .pushRxp hi b => packWord true 6 (joinByte hi b)
  | .pushTxp hi b => packWord true 6 (joinByte hi b)
  | .wrDout wdata => packWord true 7 wdata
  | .wrCrcOut wdata => packWord true 8 wdata
  | .wrCrcAcc wdata => packWord true 9 wdata
  | .wrHcnt wdata => packWord true 10 wdata
  | .wrPcnt wdata => packWord true 11 wdata
  | .wrConfig wdata => packWord true 12 wdata
  | .wrRsvd a wdata => packWord true a wdata
  | .rdHdrType wdata => packWord false 0 wdata
  | .rdHdrSeq wdata => packWord false 1 wdata
  | .rdHdrLen wdata => packWord false 2 wdata
  | .rdHdrCsum wdata => packWord false 3 wdata
  | .rdCmd wdata => packWord false 4 wdata
  | .rdStatus wdata => packWord false 5 wdata
  | .rdDin wdata => packWord false 6 wdata
  | .pop wdata => packWord false 7 wdata
  | .rdCrcOut wdata => packWord false 8 wdata
  | .rdCrcAcc wdata => packWord false 9 wdata
  | .rdHcnt wdata => packWord false 10 wdata
  | .rdPcnt wdata => packWord false 11 wdata
  | .rdConfig wdata => packWord false 12 wdata
  | .rdRsvd a wdata => packWord false a wdata

/-- The mnemonic of spec/opcode_table.json an instruction stands for. -/
def Instr.mnemonic : Instr → String
  | .wrHdrType _ => "WR_HDR_TYPE"
  | .wrHdrSeq _ => "WR_HDR_SEQ"
  | .wrHdrLen _ => "WR_HDR_LEN"
  | .wrHdrCsum _ => "WR_HDR_CSUM"
  | .nop _ => "NOP"
  | .crcStart _ => "CRC_START"
  | .enc _ => "ENC"
  | .enc0 _ => "ENC0"
  | .rxBegin _ => "RX_BEGIN"
  | .rxEnd _ => "RX_END"
  | .txBegin _ => "TX_BEGIN"
  | .txEnd _ => "TX_END"
  | .clr _ => "CLR"
  | .cmdRsvd _ _ => "CMD.RSVD"
  | .wrStatus _ => "WR_STATUS"
  | .pushIdle _ _ => "PUSH.IDLE"
  | .pushRaw _ _ => "PUSH.RAW"
  | .pushRxh _ _ => "PUSH.RXH"
  | .pushRxp _ _ => "PUSH.RXP"
  | .pushTxp _ _ => "PUSH.TXP"
  | .wrDout _ => "WR_DOUT"
  | .wrCrcOut _ => "WR_CRC_OUT"
  | .wrCrcAcc _ => "WR_CRC_ACC"
  | .wrHcnt _ => "WR_HCNT"
  | .wrPcnt _ => "WR_PCNT"
  | .wrConfig _ => "WR_CONFIG"
  | .wrRsvd _ _ => "WR_RSVD"
  | .rdHdrType _ => "RD_HDR_TYPE"
  | .rdHdrSeq _ => "RD_HDR_SEQ"
  | .rdHdrLen _ => "RD_HDR_LEN"
  | .rdHdrCsum _ => "RD_HDR_CSUM"
  | .rdCmd _ => "RD_CMD"
  | .rdStatus _ => "RD_STATUS"
  | .rdDin _ => "RD_DIN"
  | .pop _ => "POP"
  | .rdCrcOut _ => "RD_CRC_OUT"
  | .rdCrcAcc _ => "RD_CRC_ACC"
  | .rdHcnt _ => "RD_HCNT"
  | .rdPcnt _ => "RD_PCNT"
  | .rdConfig _ => "RD_CONFIG"
  | .rdRsvd _ _ => "RD_RSVD"

/-- One row of spec/opcode_table.json: a word `T` belongs to it when `T and mask = pattern` and the
row's further condition holds (R102). -/
structure TxnRow where
  mnemonic : String
  pattern : TxnWord
  mask : TxnWord
  /-- The condition `MODE = m` of a `PUSH` row. -/
  mode : Option Mode
  /-- The condition `wdata[7:0] >= 0x09` of the row `CMD.RSVD`. -/
  rsvdOp : Bool
  deriving DecidableEq, Repr

/-- Whether `T` belongs to a row when `MODE = m` (R102). -/
def TxnRow.covers (r : TxnRow) (m : Mode) (T : TxnWord) : Bool :=
  (T &&& r.mask == r.pattern) && (r.mode == none || r.mode == some m) &&
    (!r.rsvdOp || reservedOp (lowByte (wdataField T)))

/-- The rows of `CMD` writes. -/
def commandRows : List TxnRow := [
  ⟨"NOP", 0x4400000000#39, 0x7F000000FF#39, none, false⟩,
  ⟨"CRC_START", 0x4400000001#39, 0x7F000000FF#39, none, false⟩,
  ⟨"ENC", 0x4400000002#39, 0x7F000000FF#39, none, false⟩,
  ⟨"ENC0", 0x4400000003#39, 0x7F000000FF#39, none, false⟩,
  ⟨"RX_BEGIN", 0x4400000004#39, 0x7F000000FF#39, none, false⟩,
  ⟨"RX_END", 0x4400000005#39, 0x7F000000FF#39, none, false⟩,
  ⟨"TX_BEGIN", 0x4400000006#39, 0x7F000000FF#39, none, false⟩,
  ⟨"TX_END", 0x4400000007#39, 0x7F000000FF#39, none, false⟩,
  ⟨"CLR", 0x4400000008#39, 0x7F000000FF#39, none, false⟩,
  ⟨"CMD.RSVD", 0x4400000000#39, 0x7F00000000#39, none, true⟩]

/-- The rows of every other write. -/
def writeRows : List TxnRow := [
  ⟨"WR_HDR_TYPE", 0x4000000000#39, 0x7F00000000#39, none, false⟩,
  ⟨"WR_HDR_SEQ", 0x4100000000#39, 0x7F00000000#39, none, false⟩,
  ⟨"WR_HDR_LEN", 0x4200000000#39, 0x7F00000000#39, none, false⟩,
  ⟨"WR_HDR_CSUM", 0x4300000000#39, 0x7F00000000#39, none, false⟩,
  ⟨"WR_STATUS", 0x4500000000#39, 0x7F00000000#39, none, false⟩,
  ⟨"PUSH.IDLE", 0x4600000000#39, 0x7F00000000#39, some .idle, false⟩,
  ⟨"PUSH.RAW", 0x4600000000#39, 0x7F00000000#39, some .raw, false⟩,
  ⟨"PUSH.RXH", 0x4600000000#39, 0x7F00000000#39, some .rxh, false⟩,
  ⟨"PUSH.RXP", 0x4600000000#39, 0x7F00000000#39, some .rxp, false⟩,
  ⟨"PUSH.TXP", 0x4600000000#39, 0x7F00000000#39, some .txp, false⟩,
  ⟨"WR_DOUT", 0x4700000000#39, 0x7F00000000#39, none, false⟩,
  ⟨"WR_CRC_OUT", 0x4800000000#39, 0x7F00000000#39, none, false⟩,
  ⟨"WR_CRC_ACC", 0x4900000000#39, 0x7F00000000#39, none, false⟩,
  ⟨"WR_HCNT", 0x4A00000000#39, 0x7F00000000#39, none, false⟩,
  ⟨"WR_PCNT", 0x4B00000000#39, 0x7F00000000#39, none, false⟩,
  ⟨"WR_CONFIG", 0x4C00000000#39, 0x7F00000000#39, none, false⟩,
  ⟨"WR_RSVD", 0x4D00000000#39, 0x7F00000000#39, none, false⟩,
  ⟨"WR_RSVD", 0x4E00000000#39, 0x7E00000000#39, none, false⟩,
  ⟨"WR_RSVD", 0x5000000000#39, 0x7000000000#39, none, false⟩,
  ⟨"WR_RSVD", 0x6000000000#39, 0x6000000000#39, none, false⟩]

/-- The rows of reads. -/
def readRows : List TxnRow := [
  ⟨"RD_HDR_TYPE", 0x0000000000#39, 0x7F00000000#39, none, false⟩,
  ⟨"RD_HDR_SEQ", 0x0100000000#39, 0x7F00000000#39, none, false⟩,
  ⟨"RD_HDR_LEN", 0x0200000000#39, 0x7F00000000#39, none, false⟩,
  ⟨"RD_HDR_CSUM", 0x0300000000#39, 0x7F00000000#39, none, false⟩,
  ⟨"RD_CMD", 0x0400000000#39, 0x7F00000000#39, none, false⟩,
  ⟨"RD_STATUS", 0x0500000000#39, 0x7F00000000#39, none, false⟩,
  ⟨"RD_DIN", 0x0600000000#39, 0x7F00000000#39, none, false⟩,
  ⟨"POP", 0x0700000000#39, 0x7F00000000#39, none, false⟩,
  ⟨"RD_CRC_OUT", 0x0800000000#39, 0x7F00000000#39, none, false⟩,
  ⟨"RD_CRC_ACC", 0x0900000000#39, 0x7F00000000#39, none, false⟩,
  ⟨"RD_HCNT", 0x0A00000000#39, 0x7F00000000#39, none, false⟩,
  ⟨"RD_PCNT", 0x0B00000000#39, 0x7F00000000#39, none, false⟩,
  ⟨"RD_CONFIG", 0x0C00000000#39, 0x7F00000000#39, none, false⟩,
  ⟨"RD_RSVD", 0x0D00000000#39, 0x7F00000000#39, none, false⟩,
  ⟨"RD_RSVD", 0x0E00000000#39, 0x7E00000000#39, none, false⟩,
  ⟨"RD_RSVD", 0x1000000000#39, 0x7000000000#39, none, false⟩,
  ⟨"RD_RSVD", 0x2000000000#39, 0x6000000000#39, none, false⟩]

/-- The 47 rows of spec/opcode_table.json. The decoder does not use them: that it agrees with them is a
claim. -/
def txnTable : List TxnRow := commandRows ++ writeRows ++ readRows

end Sys2Proof
end

