-- ==== Sys2Proof/Machine/Operands.lean ====
section
/-! DEFINITION. Operand assembly on the port (spec/20_memory.md R65, spec/30_encoding.md R100) and the
serialisation of header fields (spec/00_scope.md R17, spec/30_encoding.md R93 to R97). -/

namespace Sys2Proof.Machine

/-- `zext_32` of a byte (R65). -/
def zextByte (b : Byte) : Word := b.setWidth 32

/-- What a `HDR_TYPE` write keeps of its word: `wdata[W_T-1:0]` (R100, R65). -/
def truncType (p : Params) (w : Word) : Word :=
  match p.typeBytes with
  | .one => zextByte (lowByte w)
  | .four => w

/-- `zext_32` of a 5-bit counter (R65). -/
def zextCount (n : BitVec 5) : Word := n.setWidth 32

/-- `ser_4`: the four bytes of a value in `ENDIAN` order (R17, R96). -/
def ser4 (e : Endian) (v : Word) : List Byte :=
  match e with
  | .le => [v.extractLsb' 0 8, v.extractLsb' 8 8, v.extractLsb' 16 8, v.extractLsb' 24 8]
  | .be => [v.extractLsb' 24 8, v.extractLsb' 16 8, v.extractLsb' 8 8, v.extractLsb' 0 8]

/-- `des_4` of four bytes in wire order (R17). -/
def des4 (e : Endian) (b0 b1 b2 b3 : Byte) : Word :=
  match e with
  | .le => b3 ++ b2 ++ b1 ++ b0
  | .be => b0 ++ b1 ++ b2 ++ b3

/-- `ser_TYPE_BYTES` of the type field (R93, R17). -/
def serType (p : Params) (t : Word) : List Byte :=
  match p.typeBytes with
  | .one => [t.extractLsb' 0 8]
  | .four => ser4 p.endian t

/-- Byte `i` of a byte list. Every caller's index lies inside its list in the states a run reaches; what
stands for a missing byte is never used there (log entry 8). -/
def byteAt (L : List Byte) (i : Nat) : Byte := L.getD i 0#8

/-- `des_4(L[o .. o + 4))` (R17). -/
def des4At (e : Endian) (L : List Byte) (o : Nat) : Word :=
  des4 e (byteAt L o) (byteAt L (o + 1)) (byteAt L (o + 2)) (byteAt L (o + 3))

/-- `des_TYPE_BYTES(L[0 .. TYPE_BYTES))` (R17, R151). -/
def desTypeAt (p : Params) (L : List Byte) : Word :=
  match p.typeBytes with
  | .one => zextByte (byteAt L 0)
  | .four => des4At p.endian L 0

end Sys2Proof.Machine
end

