-- ==== Sys2Proof/Machine/Header.lean ====
section
/-! DEFINITION. The functions of the packet codec (spec/41_codec.md R150 to R153), of the validator
(spec/42_rx_validate.md R180) and of the sealer (spec/43_tx_seal.md R200), each in the parameters of
a build. -/

namespace Sys2Proof.Machine

/-- A header value `(type, seq, len, csum)` (41_codec.md, before R150). -/
structure Header where
  typ  : Word
  seq  : Word
  len  : Word
  csum : Word
  deriving DecidableEq, Repr

/-- `T_START = 0` (R13). -/
def typeStart : Word := 0#32

/-- `T_END = 1` (R13). -/
def typeEnd : Word := 1#32

/-- `T_DATA = 2` (R13). -/
def typeData : Word := 2#32

/-- `T_ACK = 3` (R13), the last of the four: a type above it is unknown (R21, R37). -/
def typeAck : Word := 3#32

/-- `encode(h)` (R150, layout R91). -/
def encodeHeader (p : Params) (h : Header) : List Byte :=
  serType p h.typ ++ ser4 p.endian h.seq ++ ser4 p.endian h.len ++ ser4 p.endian h.csum

/-- The four fields of the first `HDR_SIZE` bytes of a buffer (R151, offsets R11). -/
def headerFields (p : Params) (buf : List Byte) : Header where
  typ := desTypeAt p buf
  seq := des4At p.endian buf p.seqOff
  len := des4At p.endian buf p.lenOff
  csum := des4At p.endian buf p.csumOff

/-- `decode(buf)`: `none` is the spec's `fail` (R151). -/
def decodeHeader (p : Params) (buf : List Byte) : Option (Header × List Byte) :=
  if buf.length < p.hdrSize then none
  else some (headerFields p buf, buf.drop p.hdrSize)

/-- `encode` with the checksum field zeroed: the header part of every covered span (R152, R165). -/
def encodeZeroed (p : Params) (h : Header) : List Byte :=
  encodeHeader p { h with csum := 0#32 }

/-- `checksumSpan(h, payload)` (R152, R153). "The function is defined only when `type != 2` or
`|payload| >= len`": outside that it is a Lean value that no caller uses (log entry 9). -/
def checksumSpan (p : Params) (h : Header) (payload : List Byte) : List Byte :=
  if h.typ = typeData then encodeZeroed p h ++ payload.take h.len.toNat
  else encodeZeroed p h

/-- The four verdicts of the validator (R180). -/
inductive Verdict where
  | accept
  | crcErr
  | short
  | lenerr
  deriving DecidableEq, Repr

/-- `validate(F)` (R180). -/
def validate (p : Params) (frame : List Byte) : Verdict :=
  match decodeHeader p frame with
  | none => .short
  | some (h, payload) =>
    if h.typ = typeData ∧ payload.length < h.len.toNat then .lenerr
    else if crc32 (checksumSpan p h payload) = h.csum then .accept
    else .crcErr

/-- `seal(type, seq, len, payload)`: `none` is the spec's `LENERR` (R200). -/
def sealPacket (p : Params) (typ seq len : Word) (payload : List Byte) : Option (List Byte) :=
  if typ = typeData ∧ payload.length < len.toNat then none
  else some (encodeHeader p ⟨typ, seq, len, crc32 (checksumSpan p ⟨typ, seq, len, 0#32⟩ payload)⟩)

end Sys2Proof.Machine
end

