-- ==== Sys2Proof/Machine/State.lean ====
section
/-! DEFINITION. The state of the block (spec/10_state.md R20 to R37, reset R50), the port input the
host presents (spec/20_memory.md R60, spec/70_reset_and_hazards.md R340) and the reasons a step can
stop, of which the spec gives none (spec/44_control.md R232). -/

namespace Sys2Proof.Machine

/-- What the port carries in one step (R60, R340): the reset input, the select signal, and the
transaction word `{we, a, wdata}` (R92), which means nothing unless `sel` is set and `rst` is not. -/
structure PortInput where
  rst  : Bool
  sel  : Bool
  word : TxnWord
  deriving DecidableEq, Repr

/-- The complete state of the block (R20), then the three fields this model adds because its step takes
no other argument: `params`, `rdata`, `inbox` (log entries 1, 2, 3). -/
structure State where
  /-- `HDR_TYPE`, `W_T` bits (R21): below `2^W_T` in every reachable state (R51 (h); log entry 5). -/
  hdrType  : Word
  /-- `HDR_SEQ` (R22). -/
  hdrSeq   : Word
  /-- `HDR_LEN` (R23). -/
  hdrLen   : Word
  /-- `HDR_CSUM` (R24). -/
  hdrCsum  : Word
  /-- `ACC`, before the final XOR (R26). -/
  acc      : Word
  /-- `HBUF[0 .. HDR_SIZE-1]` (R27): `HDR_SIZE` bytes in every reachable state (log entry 5). -/
  hbuf     : List Byte
  /-- `HCNT` (R29). -/
  hcnt     : BitVec 5
  /-- `RPTR` (R30). -/
  rptr     : BitVec 5
  /-- `PCNT` (R31). -/
  pcnt     : Word
  /-- `MODE` (R28). -/
  mode     : Mode
  /-- `DONE` (R34). -/
  done     : Bool
  /-- `ACCEPT` (R34). -/
  accept   : Bool
  /-- `CRC_ERR` (R34). -/
  crcErr   : Bool
  /-- `SHORT` (R34). -/
  short    : Bool
  /-- `LENERR` (R34). -/
  lenerr   : Bool
  /-- `EXTRA` (R34). -/
  extra    : Bool
  /-- `RXHDR` (R35). -/
  rxhdr    : Bool
  /-- `ERR_CMD` (R36). -/
  errCmd   : Bool
  /-- `ERR_SEQ` (R36). -/
  errSeq   : Bool
  /-- `UNDERRUN` (R36). -/
  underrun : Bool
  /-- Not state of the block: its build parameters (R9, R10), which no step changes (R343).
  DESIGN CHOICE, safe (log entry 1). -/
  params   : Params
  /-- Not state of the block: the `rdata` the last transaction or reset step returned (R60, R232, R340).
  DESIGN CHOICE (log entry 3). -/
  rdata    : Word
  /-- Not state of the block: what the host presents in the coming steps, oldest first (R60).
  DESIGN CHOICE, safe (log entry 2). -/
  inbox    : List PortInput
  deriving DecidableEq, Repr

/-- The reasons a step could stop with a fault. There is none: "No transaction is refused by the block,
none faults, none is stuck" (R232), so no constructor is declared, and that is exact, not a
difference from the hardware. -/
inductive Fault where
  deriving DecidableEq, Repr

/-- The reasons a step could be refused. -/
inductive Refusal where
  /-- Raised by an arm of `exec` whose transaction has no meaning yet; no arm is such. Safe. -/
  | notModelled (mnemonic : String)
  deriving DecidableEq, Repr

/-- The three outcomes of a transaction of this block. -/
abbrev Result := Host.Outcome State Fault Refusal

/-- The reset state of a block built with parameters `p` (R50, R341), nothing presented on the port, and
the `rdata` of a reset step (R340). -/
def State.resetWith (p : Params) : State where
  hdrType := 0#32
  hdrSeq := 0#32
  hdrLen := 0#32
  hdrCsum := 0#32
  acc := 0xFFFFFFFF#32
  hbuf := List.replicate p.hdrSize 0#8
  hcnt := 0#5
  rptr := 0#5
  pcnt := 0#32
  mode := .idle
  done := false
  accept := false
  crcErr := false
  short := false
  lenerr := false
  extra := false
  rxhdr := false
  errCmd := false
  errSeq := false
  underrun := false
  params := p
  rdata := 0#32
  inbox := []

/-- The machine right after reset, built with the spec's default parameters (R9, R10, R50). -/
def State.reset : State := State.resetWith Params.defaults

end Sys2Proof.Machine
end

