-- ==== Sys2Proof/Machine/Flags.lean ====
section
/-! DEFINITION. The flags: what is derived from the state (spec/10_state.md R37, R38), the constant
`CONFIG` (R39), the flow flags (R34), the verdict of a flow (spec/42_rx_validate.md R184,
spec/43_tx_seal.md R203) and the three misuse conditions (spec/60_exceptions.md R300 to R308). -/

namespace Sys2Proof.Machine

/-- The 3-bit encoding of `MODE` (R28). -/
def modeCode : Mode → BitVec 3
  | .idle => 0#3
  | .raw => 1#3
  | .rxh => 2#3
  | .rxp => 3#3
  | .txp => 4#3

/-- `TYPE_KNOWN`: `HDR_TYPE <= 3` (R37), the last of the enumeration (R13). -/
def typeKnown (s : State) : Bool := s.hdrType.toNat ≤ typeAck.toNat

/-- `CTRL_LEN_NZ`: `HDR_TYPE != 2` and `HDR_LEN != 0` (R37). -/
def ctrlLenNz (s : State) : Bool := s.hdrType != typeData && s.hdrLen != 0#32

/-- A flag at bit `n` of a word, 0 elsewhere. -/
def bitAt (n : Nat) (b : Bool) : Word := (BitVec.ofBool b).setWidth 32 <<< n

/-- The word a `STATUS` read returns: the layout table of R38, row by row; bits 31:15 are 0. -/
def statusWord (s : State) : Word :=
  bitAt 0 s.done ||| bitAt 1 s.accept ||| bitAt 2 s.crcErr ||| bitAt 3 s.short |||
    bitAt 4 s.lenerr ||| bitAt 5 s.extra ||| bitAt 6 s.rxhdr ||| bitAt 7 (typeKnown s) |||
    bitAt 8 (ctrlLenNz s) ||| bitAt 9 s.errCmd ||| bitAt 10 s.errSeq ||| bitAt 11 s.underrun |||
    (modeCode s.mode).setWidth 32 <<< 12

/-- The word a `CONFIG` read returns (R39): bit 0 `BE`, bit 1 `TYPE4`, bits 12:8 `HDR_SIZE`. -/
def configWord (p : Params) : Word :=
  bitAt 0 (p.endian == .be) ||| bitAt 1 (p.typeBytes == .four) |||
    (BitVec.ofNat 5 p.hdrSize).setWidth 32 <<< 8

/-- The word a `CRC_OUT` read returns (R43, R137). -/
def crcOut (s : State) : Word := s.acc ^^^ crcXorOut

/-- The six flow flags are cleared together (R34). -/
def clearFlowFlags (s : State) : State :=
  { s with done := false, accept := false, crcErr := false, short := false, lenerr := false,
           extra := false }

/-- The modes in which the header registers are locked and `ENC`, `ENC0` refused: RXH, RXP, TXP
(R25, R164). -/
def headerLocked : Mode → Bool
  | .idle => false
  | .raw => false
  | .rxh => true
  | .rxp => true
  | .txp => true

/-- A DATA header promised more payload than has been pushed: `HDR_TYPE = 2` and `PCNT < HDR_LEN`. The
same test says that the next payload byte is inside the covered span (R183, R184, R202, R203). -/
def payloadMissing (s : State) : Bool := s.hdrType == typeData && decide (s.pcnt < s.hdrLen)

/-- The verdict `RX_END` reaches, in the order `SHORT`, `LENERR`, `CRC_ERR` (R184, R305). -/
def rxVerdict (s : State) : Verdict :=
  if s.hcnt.toNat < s.params.hdrSize then .short
  else if payloadMissing s then .lenerr
  else if crcOut s = s.hdrCsum then .accept
  else .crcErr

/-- The four verdict flags, of which `RX_END` sets exactly one (R184). -/
def setVerdict (v : Verdict) (s : State) : State :=
  { s with accept := v == .accept, crcErr := v == .crcErr, short := v == .short,
           lenerr := v == .lenerr }

/-- The three conditions that mean the host broke the port's usage rules (R300, kind "misuse"). -/
inductive Misuse where
  | cmd
  | seq
  | underrun
  deriving DecidableEq, Repr

/-- What detecting a misuse does, all that stands in place of a trap entry (R306): the sticky flag is
set and the rest of the transaction is suppressed. -/
def raiseMisuse (m : Misuse) (s : State) : State :=
  match m with
  | .cmd => { s with errCmd := true }
  | .seq => { s with errSeq := true }
  | .underrun => { s with underrun := true }

end Sys2Proof.Machine
end

