-- ==== Sys2Proof/Machine/Ops.lean ====
section
/-! DEFINITION. The operations the transactions share: completing a transaction, the header registers,
the byte buffer, the counters, opening and closing a flow, reset, and taking the next input off the
port. -/

namespace Sys2Proof.Machine

/-- A write completes: `rdata` is "defined as 0 for writes" (R232). -/
def finishWrite (s : State) : Result := .next { s with rdata := 0#32 }

/-- A read completes with its value (R60). -/
def finishRead (v : Word) (s : State) : Result := .next { s with rdata := v }

/-- `sat_inc(v)` (R15). -/
def satInc (v : Word) : Word := if v < 0xFFFFFFFF#32 then v + 1#32 else 0xFFFFFFFF#32

/-- The header value the four header registers hold (R20). -/
def State.header (s : State) : Header := ⟨s.hdrType, s.hdrSeq, s.hdrLen, s.hdrCsum⟩

/-- The four header registers are written together (R182). -/
def setHeader (h : Header) (s : State) : State :=
  { s with hdrType := h.typ, hdrSeq := h.seq, hdrLen := h.len, hdrCsum := h.csum }

/-- A transaction that is refused with `ERR_SEQ` while a flow that uses the header is open (R25, R302):
in RXH, RXP, TXP only the flag is set, otherwise the transaction has its effect. -/
def unlessLocked (accepted s : State) : Result :=
  if headerLocked s.mode then finishWrite (raiseMisuse .seq s) else finishWrite accepted

/-- An accepted host write to a header register clears `RXHDR` (R35, R156 to R159). -/
def hostWrote (s : State) : State := { s with rxhdr := false }

/-- `HBUF` is filled whole: `HCNT <- HDR_SIZE`, `RPTR <- 0` (R27, R164, R165, R203). -/
def loadHbuf (bytes : List Byte) (s : State) : State :=
  { s with hbuf := bytes, hcnt := BitVec.ofNat 5 s.params.hdrSize, rptr := 0#5 }

/-- A byte is absorbed into `ACC` (R131). -/
def absorb (b : Byte) (s : State) : State := { s with acc := crcUpdate s.acc b }

/-- `PCNT <- sat_inc(PCNT)` (R31). -/
def countByte (s : State) : State := { s with pcnt := satInc s.pcnt }

/-- What the commands `RX_BEGIN` and `TX_BEGIN` have in common when they open a flow: the counters at
0, the flow flags and `RXHDR` cleared (R181, R201). -/
def openHeaderFlow (acc : Word) (m : Mode) (s : State) : State :=
  { clearFlowFlags s with acc := acc, hcnt := 0#5, rptr := 0#5, pcnt := 0#32, rxhdr := false,
                          mode := m }

/-- A flow is closed: `DONE <- 1`, `MODE <- IDLE` (R184, R203). -/
def closeFlow (s : State) : State := { s with done := true, mode := .idle }

/-- Every piece of state takes its reset value, and `rdata` is 0 (R50, R221, R340). The parameters are
not state and stay (R343); what the host presents next is not the block's. -/
def resetBlock (s : State) : State := { State.resetWith s.params with inbox := s.inbox }

/-- What the port carries in this step, and the state with that input gone. With nothing left to present,
`sel` and `rst` are 0 (log entry 2). -/
def takeInput (s : State) : PortInput × State :=
  match s.inbox with
  | [] => (⟨false, false, 0#39⟩, s)
  | x :: rest => (x, { s with inbox := rest })

/-- The host presents the transaction word `T` (`sel = 1`, `rst = 0`). -/
def presentTxn (T : TxnWord) : PortInput := ⟨false, true, T⟩

/-- The machine with one more input in front of whatever the host presents. -/
def State.present (x : PortInput) (s : State) : State := { s with inbox := x :: s.inbox }

end Sys2Proof.Machine
end

