-- ==== Sys2Proof/Machine/Codec.lean ====
section
/-! DEFINITION. The transactions of the packet codec (spec/41_codec.md R164 to R167). -/

namespace Sys2Proof.Machine

/-- `ENC` (R164). -/
def execEnc (s : State) : Result :=
  unlessLocked (loadHbuf (encodeHeader s.params s.header) s) s

/-- `ENC0` (R165). -/
def execEnc0 (s : State) : Result :=
  unlessLocked (loadHbuf (encodeZeroed s.params s.header) s) s

/-- `POP`, the read of `DOUT` (R166). -/
def execPop (s : State) : Result :=
  if s.rptr < s.hcnt then
    finishRead (zextByte (byteAt s.hbuf s.rptr.toNat)) { s with rptr := s.rptr + 1#5 }
  else finishRead 0#32 (raiseMisuse .underrun s)

/-- `RD HCNT` (R167). -/
def execRdHcnt (s : State) : Result := finishRead (zextCount s.hcnt) s

end Sys2Proof.Machine
end

