-- ==== Sys2Proof/Machine/Control.lean ====
section
/-! DEFINITION. The control and status transactions (spec/44_control.md R220 to R222, R224 to R228). -/

namespace Sys2Proof.Machine

/-- `NOP` (R220). -/
def execNop (s : State) : Result := finishWrite s

/-- `CLR`, the soft reset (R221). -/
def execClr (s : State) : Result := finishWrite (resetBlock s)

/-- `CMD.RSVD`, a reserved command code (R222, R103). -/
def execCmdRsvd (s : State) : Result := finishWrite (raiseMisuse .cmd s)

/-- `RD STATUS` (R224). -/
def execRdStatus (s : State) : Result := finishRead (statusWord s) s

/-- `RD CONFIG` (R225). -/
def execRdConfig (s : State) : Result := finishRead (configWord s.params) s

/-- A write that is ignored without a flag (R104). -/
def ignoreWrite (s : State) : Result := finishWrite s

/-- A read of a register that holds nothing returns 0 (R104). -/
def readZero (s : State) : Result := finishRead 0#32 s

/-- `RD CMD` (R226). -/
def execRdCmd (s : State) : Result := readZero s

/-- `RD DIN` (R226). -/
def execRdDin (s : State) : Result := readZero s

/-- `WR STATUS` (R227). -/
def execWrStatus (s : State) : Result := ignoreWrite s

/-- `WR DOUT` (R227). -/
def execWrDout (s : State) : Result := ignoreWrite s

/-- `WR CRC_OUT` (R227). -/
def execWrCrcOut (s : State) : Result := ignoreWrite s

/-- `WR CRC_ACC` (R227): "`ACC` cannot be loaded by the host". -/
def execWrCrcAcc (s : State) : Result := ignoreWrite s

/-- `WR HCNT` (R227). -/
def execWrHcnt (s : State) : Result := ignoreWrite s

/-- `WR PCNT` (R227). -/
def execWrPcnt (s : State) : Result := ignoreWrite s

/-- `WR CONFIG` (R227). -/
def execWrConfig (s : State) : Result := ignoreWrite s

/-- A write to a reserved index (R228). -/
def execWrRsvd (s : State) : Result := ignoreWrite s

/-- A read of a reserved index (R228). -/
def execRdRsvd (s : State) : Result := readZero s

end Sys2Proof.Machine
end

