-- ==== Sys2Proof/Machine/Engine.lean ====
section
/-! DEFINITION. The transactions of the checksum engine (spec/40_crc32.md R135, R137, R138); the byte
push of its RAW flow is in Sys2Proof/Machine/Push.lean. -/

namespace Sys2Proof.Machine

/-- `CRC_START` (R135). `HCNT`, `RPTR`, `RXHDR` are not changed. -/
def execCrcStart (s : State) : Result :=
  finishWrite { clearFlowFlags s with acc := crcInit, pcnt := 0#32, mode := .raw }

/-- `RD CRC_OUT` (R137). -/
def execRdCrcOut (s : State) : Result := finishRead (crcOut s) s

/-- `RD CRC_ACC` (R138). -/
def execRdCrcAcc (s : State) : Result := finishRead s.acc s

end Sys2Proof.Machine
end

