-- ==== Sys2Proof/Machine/HeaderRegs.lean ====
section
/-! DEFINITION. The header register transactions (spec/41_codec.md R156 to R163). -/

namespace Sys2Proof.Machine

/-- `WR HDR_TYPE, w` (R156). -/
def execWrHdrType (wdata : Word) (s : State) : Result :=
  unlessLocked (hostWrote { s with hdrType := truncType s.params wdata }) s

/-- `WR HDR_SEQ, w` (R157). -/
def execWrHdrSeq (wdata : Word) (s : State) : Result :=
  unlessLocked (hostWrote { s with hdrSeq := wdata }) s

/-- `WR HDR_LEN, w` (R158). -/
def execWrHdrLen (wdata : Word) (s : State) : Result :=
  unlessLocked (hostWrote { s with hdrLen := wdata }) s

/-- `WR HDR_CSUM, w` (R159). -/
def execWrHdrCsum (wdata : Word) (s : State) : Result :=
  unlessLocked (hostWrote { s with hdrCsum := wdata }) s

/-- `RD HDR_TYPE` (R160). -/
def execRdHdrType (s : State) : Result := finishRead s.hdrType s

/-- `RD HDR_SEQ` (R161). -/
def execRdHdrSeq (s : State) : Result := finishRead s.hdrSeq s

/-- `RD HDR_LEN` (R162). -/
def execRdHdrLen (s : State) : Result := finishRead s.hdrLen s

/-- `RD HDR_CSUM` (R163). -/
def execRdHdrCsum (s : State) : Result := finishRead s.hdrCsum s

end Sys2Proof.Machine
end

