-- ==== Sys2Proof/Machine/Push.lean ====
section
/-! DEFINITION. A write to `DIN`, in its five meanings (spec/40_crc32.md R136, spec/42_rx_validate.md
R182, R183, spec/43_tx_seal.md R202, spec/44_control.md R223).

The five `PUSH` rows are ONE transaction word and `MODE` selects the rule (R102, R107): `step` decodes
a `DIN` write to the row of the mode the block is in. `exec` can also be asked for another row's
constructor; it is the same `DIN` write, so it has the effect `MODE` selects (DEDUCED, log entry 4). -/

namespace Sys2Proof.Machine

/-- `PUSH b` in IDLE: the byte is lost (R223). -/
def pushInIdle (s : State) : State := raiseMisuse .seq s

/-- `PUSH b` in RAW (R136). -/
def pushInRaw (b : Byte) (s : State) : State := countByte (absorb b s)

/-- What the engine sees of header byte `n`: the checksum field is absorbed as zero (R182). -/
def coveredHeaderByte (p : Params) (n : Nat) (b : Byte) : Byte :=
  if p.csumOff ≤ n then 0#8 else b

/-- The last header byte has been stored: the header registers are written together from `HBUF` (R182). -/
def headerComplete (s : State) : State :=
  { setHeader (headerFields s.params s.hbuf) s with rxhdr := true, mode := .rxp }

/-- A header byte is stored at `HBUF[HCNT]`, absorbed and counted (R182). -/
def storeHeaderByte (b : Byte) (s : State) : State :=
  { absorb (coveredHeaderByte s.params s.hcnt.toNat b) s with
    hbuf := s.hbuf.set s.hcnt.toNat b, hcnt := s.hcnt + 1#5 }

/-- `PUSH b` in RXH (R182). -/
def pushInRxh (b : Byte) (s : State) : State :=
  if s.hcnt.toNat + 1 = s.params.hdrSize then headerComplete (storeHeaderByte b s)
  else storeHeaderByte b s

/-- A payload byte: absorbed inside the covered span, flagged `EXTRA` outside it, counted (R183, R202). -/
def payloadByte (b : Byte) (s : State) : State :=
  countByte (if payloadMissing s then absorb b s else { s with extra := true })

/-- `PUSH b` in RXP (R183). -/
def pushInRxp (b : Byte) (s : State) : State := payloadByte b s

/-- `PUSH b` in TXP, "identical to RXP" (R202). -/
def pushInTxp (b : Byte) (s : State) : State := payloadByte b s

/-- A write to `DIN`: what the push does depends on `MODE` (R41, R102). -/
def pushByte (b : Byte) (s : State) : Result :=
  match s.mode with
  | .idle => finishWrite (pushInIdle s)
  | .raw => finishWrite (pushInRaw b s)
  | .rxh => finishWrite (pushInRxh b s)
  | .rxp => finishWrite (pushInRxp b s)
  | .txp => finishWrite (pushInTxp b s)

/-- The row `PUSH.IDLE` (R223). -/
def execPushIdle (b : Byte) (s : State) : Result := pushByte b s

/-- The row `PUSH.RAW` (R136). -/
def execPushRaw (b : Byte) (s : State) : Result := pushByte b s

/-- The row `PUSH.RXH` (R182). -/
def execPushRxh (b : Byte) (s : State) : Result := pushByte b s

/-- The row `PUSH.RXP` (R183). -/
def execPushRxp (b : Byte) (s : State) : Result := pushByte b s

/-- The row `PUSH.TXP` (R202). -/
def execPushTxp (b : Byte) (s : State) : Result := pushByte b s

end Sys2Proof.Machine
end

