-- ==== Sys2Proof/Machine/Rx.lean ====
section
/-! DEFINITION. The RX flow (spec/42_rx_validate.md R181, R184, R185); its byte pushes are in
Sys2Proof/Machine/Push.lean. -/

namespace Sys2Proof.Machine

/-- `RX_BEGIN` (R181). -/
def execRxBegin (s : State) : Result := finishWrite (openHeaderFlow crcInit .rxh s)

/-- Whether an RX flow is open: `MODE` in {RXH, RXP} (R184). -/
def rxOpen : Mode → Bool
  | .idle => false
  | .raw => false
  | .rxh => true
  | .rxp => true
  | .txp => false

/-- `RX_END` (R184). -/
def execRxEnd (s : State) : Result :=
  if rxOpen s.mode then finishWrite (closeFlow (setVerdict (rxVerdict s) s))
  else finishWrite (raiseMisuse .seq s)

/-- `RD PCNT` (R185). -/
def execRdPcnt (s : State) : Result := finishRead s.pcnt s

end Sys2Proof.Machine
end

