-- ==== Sys2Proof/Machine/Tx.lean ====
section
/-! DEFINITION. The TX flow (spec/43_tx_seal.md R201, R203); its byte push is in
Sys2Proof/Machine/Push.lean. -/

namespace Sys2Proof.Machine

/-- `TX_BEGIN`: the whole header with its checksum field zeroed is absorbed in this one step (R201). -/
def execTxBegin (s : State) : Result :=
  finishWrite (openHeaderFlow (crcAbsorb crcInit (encodeZeroed s.params s.header)) .txp s)

/-- What `TX_END` does when no payload is missing: the checksum goes into `HDR_CSUM` and the header into
`HBUF` (R203). -/
def sealHeader (s : State) : State :=
  loadHbuf (encodeHeader s.params { s.header with csum := crcOut s })
    { s with hdrCsum := crcOut s }

/-- `TX_END` (R203). -/
def execTxEnd (s : State) : Result :=
  if s.mode = .txp then
    if payloadMissing s then finishWrite (closeFlow { s with lenerr := true })
    else finishWrite (closeFlow (sealHeader { s with lenerr := false }))
  else finishWrite (raiseMisuse .seq s)

end Sys2Proof.Machine
end

