-- ==== Sys2Proof/Machine/Dispatch.lean ====
section
/-! DEFINITION. One arm per transaction: its meaning. Ignored operands (spec/30_encoding.md R92, R100) stop
here. -/

namespace Sys2Proof.Machine

def exec (i : Instr) (s : State) : Host.Outcome State Fault Refusal :=
  match i with
  | .wrHdrType wdata => Sys2Proof.Machine.execWrHdrType wdata s
  | .wrHdrSeq wdata => Sys2Proof.Machine.execWrHdrSeq wdata s
  | .wrHdrLen wdata => Sys2Proof.Machine.execWrHdrLen wdata s
  | .wrHdrCsum wdata => Sys2Proof.Machine.execWrHdrCsum wdata s
  | .nop _ => Sys2Proof.Machine.execNop s
  | .crcStart _ => Sys2Proof.Machine.execCrcStart s
  | .enc _ => Sys2Proof.Machine.execEnc s
  | .enc0 _ => Sys2Proof.Machine.execEnc0 s
  | .rxBegin _ => Sys2Proof.Machine.execRxBegin s
  | .rxEnd _ => Sys2Proof.Machine.execRxEnd s
  | .txBegin _ => Sys2Proof.Machine.execTxBegin s
  | .txEnd _ => Sys2Proof.Machine.execTxEnd s
  | .clr _ => Sys2Proof.Machine.execClr s
  | .cmdRsvd _ _ => Sys2Proof.Machine.execCmdRsvd s
  | .wrStatus _ => Sys2Proof.Machine.execWrStatus s
  | .pushIdle _ b => Sys2Proof.Machine.execPushIdle b s
  | .pushRaw _ b => Sys2Proof.Machine.execPushRaw b s
  | .pushRxh _ b => Sys2Proof.Machine.execPushRxh b s
  | .pushRxp _ b => Sys2Proof.Machine.execPushRxp b s
  | .pushTxp _ b => Sys2Proof.Machine.execPushTxp b s
  | .wrDout _ => Sys2Proof.Machine.execWrDout s
  | .wrCrcOut _ => Sys2Proof.Machine.execWrCrcOut s
  | .wrCrcAcc _ => Sys2Proof.Machine.execWrCrcAcc s
  | .wrHcnt _ => Sys2Proof.Machine.execWrHcnt s
  | .wrPcnt _ => Sys2Proof.Machine.execWrPcnt s
  | .wrConfig _ => Sys2Proof.Machine.execWrConfig s
  | .wrRsvd _ _ => Sys2Proof.Machine.execWrRsvd s
  | .rdHdrType _ => Sys2Proof.Machine.execRdHdrType s
  | .rdHdrSeq _ => Sys2Proof.Machine.execRdHdrSeq s
  | .rdHdrLen _ => Sys2Proof.Machine.execRdHdrLen s
  | .rdHdrCsum _ => Sys2Proof.Machine.execRdHdrCsum s
  | .rdCmd _ => Sys2Proof.Machine.execRdCmd s
  | .rdStatus _ => Sys2Proof.Machine.execRdStatus s
  | .rdDin _ => Sys2Proof.Machine.execRdDin s
  | .pop _ => Sys2Proof.Machine.execPop s
  | .rdCrcOut _ => Sys2Proof.Machine.execRdCrcOut s
  | .rdCrcAcc _ => Sys2Proof.Machine.execRdCrcAcc s
  | .rdHcnt _ => Sys2Proof.Machine.execRdHcnt s
  | .rdPcnt _ => Sys2Proof.Machine.execRdPcnt s
  | .rdConfig _ => Sys2Proof.Machine.execRdConfig s
  | .rdRsvd _ _ => Sys2Proof.Machine.execRdRsvd s

end Sys2Proof.Machine
end

