-- ==== Sys2Proof/Machine/Step.lean ====
section
/-! DEFINITION. One step of the block (spec/20_memory.md R60, spec/44_control.md R232,
spec/70_reset_and_hazards.md R340): a reset step, a transaction, or nothing. -/

namespace Sys2Proof.Machine

/-- One transaction: the word is decoded in the mode the block is in (R102) and executed. -/
def stepWord (T : TxnWord) (s : State) : Host.Outcome State Fault Refusal :=
  exec (decode s.mode T) s

/-- What the step does with what the port carries: `rst` overrides all else (R340), `sel = 0` is no
transaction (R60). -/
def stepInput (x : PortInput) (s : State) : Host.Outcome State Fault Refusal :=
  if x.rst then .next (resetBlock s)
  else if x.sel then stepWord x.word s
  else .next s

/-- One step: the next input is taken off the port and acted on. -/
def step (s : State) : Host.Outcome State Fault Refusal :=
  stepInput (takeInput s).1 (takeInput s).2

/-- The transaction word `w` presented on the port in the next step, in front of anything else the host
presents (log entry 6). -/
def State.withFetchWord (s : State) (nbits w : Nat) : State :=
  s.present (presentTxn (BitVec.ofNat 39 (w % 2 ^ nbits)))

end Sys2Proof.Machine
end

