-- ==== Sys2Proof/Machine/Macros.lean ====
section
/-! DEFINITION. Sequences of transactions as the spec writes them (spec/30_encoding.md R108, R109) and
their execution, one `step` a transaction (spec/20_memory.md R70). -/

namespace Sys2Proof.Machine

/-- `WR <index>, <value>` (R108). -/
def writeTxn (a : RegIndex) (w : Word) : TxnWord := packWord true a w

/-- `RD <index>`, in the canonical encoding with `wdata = 0` (R92, R108). -/
def readTxn (a : RegIndex) : TxnWord := packWord false a 0#32

/-- `WR CMD, <code>` (R109). -/
def cmdTxn (op : Byte) : TxnWord := writeTxn 4 (zextByte op)

/-- `PUSH b` (R109). -/
def pushTxn (b : Byte) : TxnWord := writeTxn 6 (zextByte b)

/-- `POP` (R109). -/
def popTxn : TxnWord := readTxn 7

/-- `PUSHS L` (R109). -/
def pushTxns (L : List Byte) : List TxnWord := L.map pushTxn

/-- `POPN n` (R109). -/
def popTxns (n : Nat) : List TxnWord := List.replicate n popTxn

/-- `SETHDR t, s, l` (R109). -/
def setHdrTxns (typ seq len : Word) : List TxnWord :=
  [writeTxn 0 typ, writeTxn 1 seq, writeTxn 2 len]

/-- `SEAL t, s, l, P` without its pops: `SETHDR`, `TX_BEGIN`, `PUSHS P`, `TX_END` (R109). -/
def sealTxns (typ seq len : Word) (payload : List Byte) : List TxnWord :=
  setHdrTxns typ seq len ++ [cmdTxn 6] ++ pushTxns payload ++ [cmdTxn 7]

/-- Run transactions one after another from `s`: the final state, and the `rdata` of each (0 for a
write, R232). Each is presented on the port and one `step` taken. -/
def runTxns : List TxnWord → State → Host.Outcome (State × List Word) Fault Refusal
  | [], s => .next (s, [])
  | T :: rest, s =>
    match step (s.present (presentTxn T)) with
    | .next t =>
      match runTxns rest t with
      | .next (u, reads) => .next (u, t.rdata :: reads)
      | .fault f => .fault f
      | .refused r => .refused r
    | .fault f => .fault f
    | .refused r => .refused r

end Sys2Proof.Machine
end

