-- ==== Sys2Proof/Safety.lean ====
section
/-! DEFINITION. The terms in which claims speak: the invariant of the states a run reaches
(spec/10_state.md R51), the accumulator invariant of an open flow, what a transaction word asks for,
read straight from its fields and not through the decoder (spec/30_encoding.md R92, R101), and the
bits of a byte list in the order the engine takes them (spec/40_crc32.md R130). -/

namespace Sys2Proof.Machine

/-! ## The invariant of R51 -/

/-- R51 (b). -/
abbrev State.countersInRange (s : State) : Prop :=
  s.rptr.toNat ≤ s.hcnt.toNat ∧ s.hcnt.toNat ≤ s.params.hdrSize

/-- R51 (c). -/
abbrev State.rxhClean (s : State) : Prop :=
  s.mode = .rxh → s.hcnt.toNat < s.params.hdrSize ∧ s.pcnt = 0#32 ∧ s.rxhdr = false

/-- R51 (d). -/
abbrev State.rxpDecoded (s : State) : Prop :=
  s.mode = .rxp → s.hcnt.toNat = s.params.hdrSize ∧ s.rxhdr = true ∧
    decodeHeader s.params s.hbuf = some (s.header, [])

/-- R51 (e). -/
abbrev State.txpClean (s : State) : Prop :=
  s.mode = .txp → s.hcnt = 0#5 ∧ s.rxhdr = false

/-- R51 (f): at most one of the four verdict flags, and none without `DONE`. -/
abbrev State.verdictExclusive (s : State) : Prop :=
  (s.accept.toNat + s.crcErr.toNat + s.short.toNat + s.lenerr.toNat ≤ 1) ∧
    ((s.accept || s.crcErr || s.short || s.lenerr) = true → s.done = true)

/-- R51 (g). -/
abbrev State.doneIdle (s : State) : Prop := s.done = true → s.mode = .idle

/-- R51 (h). -/
abbrev State.typeInWidth (s : State) : Prop := s.hdrType.toNat < 2 ^ s.params.typeWidth

/-- `HBUF` has `HDR_SIZE` bytes (R20). -/
abbrev State.hbufFull (s : State) : Prop := s.hbuf.length = s.params.hdrSize

/-- "Every state reachable from reset by any sequence of transactions satisfies" this (R51 (b) to (h);
(a), that `MODE` is one of five values, holds by the type `Mode`; the length of `HBUF` is R20's). -/
abbrev State.Inv (s : State) : Prop :=
  s.countersInRange ∧ s.rxhClean ∧ s.rxpDecoded ∧ s.txpClean ∧ s.verdictExclusive ∧ s.doneIdle ∧
    s.typeInWidth ∧ s.hbufFull

/-! ## The accumulator invariant of an open flow -/

/-- The first header bytes as the engine sees them: the checksum field as zeros (R182). -/
def zeroCsum (p : Params) (L : List Byte) : List Byte :=
  L.take p.csumOff ++ List.replicate (L.length - p.csumOff) 0#8

/-- In RAW, there are bytes, `PCNT` of them (saturated), of which `ACC` is the remainder, and `EXTRA` is
clear (R135, R136). -/
def State.accOfRaw (s : State) : Prop :=
  s.mode = .raw → s.extra = false ∧
    ∃ P : List Byte, s.pcnt.toNat = min P.length 0xFFFFFFFF ∧ s.acc = crcAbsorb crcInit P

/-- In RXH, `ACC` is the remainder of the header bytes so far, the checksum field as zeros (R182). -/
def State.accOfHeader (s : State) : Prop :=
  s.mode = .rxh → s.extra = false ∧
    s.acc = crcAbsorb crcInit (zeroCsum s.params (s.hbuf.take s.hcnt.toNat))

/-- In RXP and TXP, there is a payload, `PCNT` bytes long (saturated), for which `ACC` is the remainder
of the covered span and `EXTRA` says whether it reaches beyond the span (R182, R183, R201, R202). -/
def State.accOfSpan (s : State) : Prop :=
  s.mode = .rxp ∨ s.mode = .txp →
    ∃ P : List Byte, s.pcnt.toNat = min P.length 0xFFFFFFFF ∧
      s.acc = crcAbsorb crcInit (checksumSpan s.params s.header P) ∧
      (s.extra = true ↔ (s.hdrType = typeData ∧ s.hdrLen.toNat < P.length) ∨
        (s.hdrType ≠ typeData ∧ 0 < P.length))

/-- `LENERR` and `EXTRA` cannot both result from one flow (R305). -/
def State.lenerrNotExtra (s : State) : Prop := ¬(s.lenerr = true ∧ s.extra = true)

/-- The accumulator invariant, a clause for each flow that is open (RAW, RX, TX) and R305's. In RAW, RXP
and TXP it says of SOME bytes of the number `PCNT` counts: the bytes pushed are not state, so that they
are those pushed is said by the statements about runs (`RawFlowComputesChecksum`,
`RxFlowValidatesTheFrame`, `TxFlowSealsThePacket`). -/
def State.FlowInv (s : State) : Prop :=
  s.accOfRaw ∧ s.accOfHeader ∧ s.accOfSpan ∧ s.lenerrNotExtra

/-! ## What a transaction word asks for -/

/-- The command code of a `CMD` write, `wdata[7:0]` (R101). -/
def commandOf (T : TxnWord) : Option Byte :=
  if weField T = true ∧ indexField T = 4#6 then some (lowByte (wdataField T)) else none

/-- The byte of a `DIN` write, `wdata[7:0]` (R41). -/
def pushedByte (T : TxnWord) : Option Byte :=
  if weField T = true ∧ indexField T = 6#6 then some (lowByte (wdataField T)) else none

/-- The bytes a sequence of transactions pushes, in order. -/
def pushedBytes (Ts : List TxnWord) : List Byte := Ts.filterMap pushedByte

/-- A flow-opening command: `CRC_START`, `RX_BEGIN`, `TX_BEGIN` (R34). -/
def opensFlow (T : TxnWord) : Bool :=
  commandOf T == some 1#8 || commandOf T == some 4#8 || commandOf T == some 6#8

/-- The command `CLR`. -/
def isClr (T : TxnWord) : Bool := commandOf T == some 8#8

/-- A `CMD` write with a reserved code, 0x09 to 0xFF (R101). -/
def reservedCommand (T : TxnWord) : Bool :=
  match commandOf T with
  | some op => decide (9 ≤ op.toNat)
  | none => false

/-- `ENC` or `ENC0`. -/
def encodes (T : TxnWord) : Bool := commandOf T == some 2#8 || commandOf T == some 3#8

/-- A host write to one of the four header registers, indices 0 to 3. -/
def writesHeader (T : TxnWord) : Bool := weField T && decide ((indexField T).toNat < 4)

/-- A read of `DOUT`, index 7. -/
def readsDout (T : TxnWord) : Bool := !weField T && indexField T == 7#6

/-- The transactions that set `ERR_SEQ`, by mode: the table of R302. -/
def seqMisuse (m : Mode) (T : TxnWord) : Bool :=
  ((pushedByte T).isSome && m == .idle) ||
  (commandOf T == some 5#8 && (m == .idle || m == .raw || m == .txp)) ||
  (commandOf T == some 7#8 && (m == .idle || m == .raw || m == .rxh || m == .rxp)) ||
  ((encodes T || writesHeader T) && (m == .rxh || m == .rxp || m == .txp))

/-- The push that stores the last header byte, in RXH (R182). -/
def completesHeader (s : State) (T : TxnWord) : Bool :=
  (pushedByte T).isSome && s.mode == .rxh && s.hcnt.toNat + 1 == s.params.hdrSize

/-- A `TX_END` that seals: `MODE = TXP` and no payload missing (R203). -/
def sealsHeader (s : State) (T : TxnWord) : Bool :=
  commandOf T == some 7#8 && s.mode == .txp && !payloadMissing s

/-- A host write to header register `k` of the four (R61, indices 0 to 3). -/
def writesHeaderReg (k : Nat) (T : TxnWord) : Bool := weField T && (indexField T).toNat == k

/-- The sequencing table of R33: what `MODE`, `HCNT`, `RPTR`, `PCNT` are after transaction `T`. -/
def sequencingTable (s : State) (T : TxnWord) : Mode × BitVec 5 × BitVec 5 × Word :=
  let same := (s.mode, s.hcnt, s.rptr, s.pcnt)
  let hdrSize := BitVec.ofNat 5 s.params.hdrSize
  match commandOf T, pushedByte T with
  | some op, _ =>
    if op = 1#8 then (.raw, s.hcnt, s.rptr, 0#32)
    else if op = 2#8 ∨ op = 3#8 then
      if s.mode = .idle ∨ s.mode = .raw then (s.mode, hdrSize, 0#5, s.pcnt) else same
    else if op = 4#8 then (.rxh, 0#5, 0#5, 0#32)
    else if op = 5#8 then
      if s.mode = .rxh ∨ s.mode = .rxp then (.idle, s.hcnt, s.rptr, s.pcnt) else same
    else if op = 6#8 then (.txp, 0#5, 0#5, 0#32)
    else if op = 7#8 then
      if s.mode = .txp then
        if payloadMissing s then (.idle, s.hcnt, s.rptr, s.pcnt) else (.idle, hdrSize, 0#5, s.pcnt)
      else same
    else if op = 8#8 then (.idle, 0#5, 0#5, 0#32)
    else same
  | none, some _ =>
    if s.mode = .idle then same
    else if s.mode = .rxh then
      (if s.hcnt.toNat + 1 = s.params.hdrSize then .rxp else .rxh, s.hcnt + 1#5, s.rptr, s.pcnt)
    else (s.mode, s.hcnt, s.rptr, satInc s.pcnt)
  | none, none =>
    if readsDout T = true ∧ s.rptr < s.hcnt then (s.mode, s.hcnt, s.rptr + 1#5, s.pcnt) else same

/-! ## Bits in the order the engine takes them -/

/-- The bits of a byte, least significant first (R130: "each input byte processed least significant bit
first"). -/
def bitsOfByte (b : Byte) : List Bool := (List.range 8).map b.getLsbD

/-- The bits of a byte list in the order the engine takes them. -/
def bitsOf (L : List Byte) : List Bool := L.flatMap bitsOfByte

/-- The bits of two lists differ only inside a window of at most 32 consecutive positions (R142). -/
def DifferWithin32 (A B : List Byte) : Prop :=
  ∃ pre U V post : List Bool, bitsOf A = pre ++ U ++ post ∧ bitsOf B = pre ++ V ++ post ∧
    U.length = V.length ∧ U.length ≤ 32

end Sys2Proof.Machine
end

