-- ==== Sys2Proof/Certificates/Slice0/Obligations.lean ====
section
/-! DEFINITION. The statements for the provers. A result is stated as the whole next state, so it carries
its frame: every field not named is unchanged (the block has no memory, spec/10_state.md R47, so a
frame is about registers, flags and `HBUF`). `rdata` is 0 after a write (spec/44_control.md R232).
Every statement is for all four settings of the two parameters, which are a field of the state. -/

open Sys2Proof Sys2Proof.Machine

/-! ## A step -/

/-- A presented transaction is decoded in the current mode and executed, as `stepWord`. The queue `inbox`
is the model's own (log entry 2). -/
def Obligations.StepExecutesPresentedTransaction : Prop :=
  ∀ (s : State) (T : TxnWord) (rest : List PortInput),
    s.inbox = ⟨false, true, T⟩ :: rest →
      step s = exec (decode s.mode T) { s with inbox := rest } ∧
      step s = stepWord T { s with inbox := rest }

/-- A step with `rst` asserted: whatever `sel`, `we`, `a`, `wdata` carry, the state is the reset state and
`rdata` is 0 (R340); the parameters stay (R343). The queue is the model's (log entry 2). -/
def Obligations.ResetStepOverridesThePort : Prop :=
  ∀ (s : State) (sel : Bool) (T : TxnWord) (rest : List PortInput),
    s.inbox = ⟨true, sel, T⟩ :: rest →
      step s = .next { State.resetWith s.params with rdata := 0#32, inbox := rest }

/-- A step with `sel = 0` and `rst = 0` changes nothing of the block, whatever the other signals carry,
and so does a step with nothing left to present (log entry 2; that `rdata` stays is log entry 3). -/
def Obligations.StepWithoutTransactionChangesNothing : Prop :=
  ∀ (s : State),
    (∀ (T : TxnWord) (rest : List PortInput), s.inbox = ⟨false, false, T⟩ :: rest →
      step s = .next { s with inbox := rest }) ∧
    (s.inbox = [] → step s = .next s)

/-- Every step of every state, and every transaction in every state, answers a next state. -/
def Obligations.EveryStepAndTransactionCompletes : Prop :=
  (∀ s : State, ∃ t, step s = .next t) ∧ (∀ (i : Instr) (s : State), ∃ t, exec i s = .next t)

/-- The state after a sequence of transactions is the fold of the step over it: presenting the sequence
on the port and stepping once for each is the same as running them one by one, nothing that is
presented later has any influence, and a sequence may be cut anywhere. -/
def Obligations.SequenceIsFoldOfSteps : Prop :=
  (∀ (Ts : List TxnWord) (s : State) (rest : List PortInput),
    ∃ t reads, runTxns Ts { s with inbox := rest } = .next (t, reads) ∧
      Host.Core.run core Ts.length { s with inbox := Ts.map presentTxn ++ rest } = .next t ∧
      reads.length = Ts.length ∧ t.inbox = rest) ∧
  (∀ (As Bs : List TxnWord) (s t u : State) (ra rb : List Word),
    runTxns As s = .next (t, ra) → runTxns Bs t = .next (u, rb) →
      runTxns (As ++ Bs) s = .next (u, ra ++ rb))

/-! ## Reset -/

/-- The reset value of every piece of state and what every register reads there, in every build, and that
`CLR` leaves that state (R50). The fields `params`, `rdata`, `inbox` are not the block's state: `CLR`
leaves `params` and `inbox` as they are, and `rdata` is 0 (log entries 1, 2, 3). -/
def Obligations.ResetStateAndItsReads : Prop :=
  (∀ p : Params, ∀ r : State, r = State.resetWith p →
    (r.hdrType = 0#32 ∧ r.hdrSeq = 0#32 ∧ r.hdrLen = 0#32 ∧ r.hdrCsum = 0#32 ∧
      r.acc = 0xFFFFFFFF#32 ∧ r.hbuf.length = p.hdrSize ∧ (∀ b ∈ r.hbuf, b = 0#8) ∧
      r.hcnt = 0#5 ∧ r.rptr = 0#5 ∧ r.pcnt = 0#32 ∧ r.mode = .idle ∧
      r.done = false ∧ r.accept = false ∧ r.crcErr = false ∧ r.short = false ∧
      r.lenerr = false ∧ r.extra = false ∧ r.rxhdr = false ∧
      r.errCmd = false ∧ r.errSeq = false ∧ r.underrun = false) ∧
    (∀ w : Word,
      exec (.rdHdrType w) r = .next { r with rdata := 0#32 } ∧
      exec (.rdHdrSeq w) r = .next { r with rdata := 0#32 } ∧
      exec (.rdHdrLen w) r = .next { r with rdata := 0#32 } ∧
      exec (.rdHdrCsum w) r = .next { r with rdata := 0#32 } ∧
      exec (.rdCmd w) r = .next { r with rdata := 0#32 } ∧
      exec (.rdDin w) r = .next { r with rdata := 0#32 } ∧
      exec (.rdHcnt w) r = .next { r with rdata := 0#32 } ∧
      exec (.rdPcnt w) r = .next { r with rdata := 0#32 } ∧
      exec (.rdStatus w) r = .next { r with rdata := 0x00000080#32 } ∧
      exec (.rdCrcOut w) r = .next { r with rdata := 0x00000000#32 } ∧
      exec (.rdCrcAcc w) r = .next { r with rdata := 0xFFFFFFFF#32 } ∧
      exec (.rdConfig w) r = .next { r with rdata :=
        match p.endian, p.typeBytes with
        | .le, .one => 0x00000D00#32
        | .le, .four => 0x00001002#32
        | .be, .one => 0x00000D01#32
        | .be, .four => 0x00001003#32 } ∧
      exec (.pop w) r = .next { r with rdata := 0#32, underrun := true })) ∧
  (∀ (hi : BitVec 24) (s : State),
    exec (.clr hi) s = .next { State.resetWith s.params with inbox := s.inbox })

/-! ## Encoding -/

/-- Words written out bit by bit from R92 and R101, and what they decode to. -/
def Obligations.WrittenOutWordsDecode : Prop :=
  decode .idle 0b100010000000000000000000000000000000100#39 = .rxBegin 0#24 ∧
  decode .idle 0b000010100000000000000000000000000000000#39 = .rdStatus 0#32 ∧
  decode .raw 0b100011000000000000000000000000000110001#39 = .pushRaw 0#24 0x31#8 ∧
  decode .rxp 0b100011000000000000000000000000000110001#39 = .pushRxp 0#24 0x31#8 ∧
  decode .txp 0b100000111011110101011011011111011101111#39 = .wrHdrSeq 0xDEADBEEF#32 ∧
  decode .txp 0x4400000009#39 = .cmdRsvd 0#24 9#8 ∧
  decode .txp 0x44ABCDEF00#39 = .nop 0xABCDEF#24 ∧
  decode .idle 0x4D00000001#39 = .wrRsvd 13#6 1#32 ∧
  decode .idle 0x3F00000000#39 = .rdRsvd 63#6 0#32 ∧
  decode .idle 0x0700000000#39 = .pop 0#32

/-- Decoding what was encoded gives the instruction back, for every well-formed instruction with every
value of every operand, in every mode whose row it is. -/
def Obligations.DecodeOfEncodeIsIdentity : Prop :=
  ∀ (i : Instr) (m : Mode), i.wf = true → i.inMode m = true → decode m (encode i) = i

/-- Every one of the `2^39` words decodes in every mode to a well-formed row of that mode, and encoding
that gives the word back: no bit of a word is dropped and no two words are confused. -/
def Obligations.EncodeOfDecodeIsIdentity : Prop :=
  ∀ (m : Mode) (T : TxnWord),
    (decode m T).wf = true ∧ (decode m T).inMode m = true ∧ encode (decode m T) = T

/-- "Every one of the `2^39` transaction words falls in exactly one row" of the opcode table, and the
decoder gives that row (R102). -/
def Obligations.EveryWordFallsInExactlyOneRow : Prop :=
  ∀ (m : Mode) (T : TxnWord),
    (txnTable.filter fun r => r.covers m T).map TxnRow.mnemonic = [(decode m T).mnemonic]

/-- What a transaction ignores has no effect: the `wdata` of a read (R92), `wdata[31:8]` of a `CMD` or
`DIN` write and of a `HDR_TYPE` write with a 1-byte type (R100). -/
def Obligations.IgnoredBitsHaveNoEffect : Prop :=
  ∀ (T T' : TxnWord) (s : State), weField T = weField T' → indexField T = indexField T' →
    (weField T = false → stepWord T s = stepWord T' s) ∧
    ((indexField T = 4#6 ∨ indexField T = 6#6 ∨
        (indexField T = 0#6 ∧ s.params.typeBytes = .one)) →
      (wdataField T).extractLsb' 0 8 = (wdataField T').extractLsb' 0 8 →
      stepWord T s = stepWord T' s)

/-- `ser_N` and `des_N` (R17): which byte of a value comes where, and that each undoes the other, for `N`
= 4 and for the 1-byte type in both orders. -/
def Obligations.SerialisationByteOrder : Prop :=
  (∀ (v : Word) (i : Nat), i < 4 →
    (ser4 .le v)[i]? = some (v.extractLsb' (8 * i) 8) ∧
    (ser4 .be v)[i]? = some (v.extractLsb' (8 * (3 - i)) 8)) ∧
  (∀ (e : Endian) (v : Word), (ser4 e v).length = 4 ∧ des4At e (ser4 e v) 0 = v) ∧
  (∀ (e : Endian) (b0 b1 b2 b3 : Byte), ser4 e (des4 e b0 b1 b2 b3) = [b0, b1, b2, b3]) ∧
  (∀ (e : Endian) (v : Byte), serType ⟨e, .one⟩ (v.setWidth 32) = [v] ∧
    desTypeAt ⟨e, .one⟩ [v] = v.setWidth 32)

/-! ## Header registers -/

/-- The four header register writes (R156 to R159): the encoding, the register written and `RXHDR`
cleared in IDLE and RAW, `ERR_SEQ` and nothing else in RXH, RXP, TXP. -/
def Obligations.HeaderWritesStoreOrAreRefused : Prop :=
  ∀ (w : Word) (s : State),
    decode s.mode (0x4000000000#39 ||| w.setWidth 39) = .wrHdrType w ∧
    decode s.mode (0x4100000000#39 ||| w.setWidth 39) = .wrHdrSeq w ∧
    decode s.mode (0x4200000000#39 ||| w.setWidth 39) = .wrHdrLen w ∧
    decode s.mode (0x4300000000#39 ||| w.setWidth 39) = .wrHdrCsum w ∧
    (s.mode = .idle ∨ s.mode = .raw →
      (s.params.typeBytes = .one → exec (.wrHdrType w) s =
        .next { s with hdrType := (w.extractLsb' 0 8).setWidth 32, rxhdr := false, rdata := 0#32 }) ∧
      (s.params.typeBytes = .four → exec (.wrHdrType w) s =
        .next { s with hdrType := w, rxhdr := false, rdata := 0#32 }) ∧
      exec (.wrHdrSeq w) s = .next { s with hdrSeq := w, rxhdr := false, rdata := 0#32 } ∧
      exec (.wrHdrLen w) s = .next { s with hdrLen := w, rxhdr := false, rdata := 0#32 } ∧
      exec (.wrHdrCsum w) s = .next { s with hdrCsum := w, rxhdr := false, rdata := 0#32 }) ∧
    (s.mode = .rxh ∨ s.mode = .rxp ∨ s.mode = .txp →
      exec (.wrHdrType w) s = .next { s with errSeq := true, rdata := 0#32 } ∧
      exec (.wrHdrSeq w) s = .next { s with errSeq := true, rdata := 0#32 } ∧
      exec (.wrHdrLen w) s = .next { s with errSeq := true, rdata := 0#32 } ∧
      exec (.wrHdrCsum w) s = .next { s with errSeq := true, rdata := 0#32 })

/-- The four header register reads (R160 to R163), valid in every mode, without a state change. -/
def Obligations.HeaderReadsReturnTheRegister : Prop :=
  ∀ (w : Word) (s : State),
    decode s.mode 0x0000000000#39 = .rdHdrType 0#32 ∧
    decode s.mode 0x0100000000#39 = .rdHdrSeq 0#32 ∧
    decode s.mode 0x0200000000#39 = .rdHdrLen 0#32 ∧
    decode s.mode 0x0300000000#39 = .rdHdrCsum 0#32 ∧
    exec (.rdHdrType w) s = .next { s with rdata := s.hdrType } ∧
    exec (.rdHdrSeq w) s = .next { s with rdata := s.hdrSeq } ∧
    exec (.rdHdrLen w) s = .next { s with rdata := s.hdrLen } ∧
    exec (.rdHdrCsum w) s = .next { s with rdata := s.hdrCsum }

/-- Among transactions, the header registers change only by: `CLR`; an accepted host write, which changes the one register
written; the push of the last header byte, which sets all four from `HBUF`; a sealing `TX_END`, which
changes `HDR_CSUM` only (R21 to R24, R352). In particular they are locked while a flow that uses them is
open (R25). -/
def Obligations.HeaderRegistersChangeOnlyBy : Prop :=
  ∀ (T : TxnWord) (s t : State), stepWord T s = .next t → isClr T = false →
    ((writesHeaderReg 0 T = false ∨ headerLocked s.mode = true) → completesHeader s T = false →
      t.hdrType = s.hdrType) ∧
    ((writesHeaderReg 1 T = false ∨ headerLocked s.mode = true) → completesHeader s T = false →
      t.hdrSeq = s.hdrSeq) ∧
    ((writesHeaderReg 2 T = false ∨ headerLocked s.mode = true) → completesHeader s T = false →
      t.hdrLen = s.hdrLen) ∧
    ((writesHeaderReg 3 T = false ∨ headerLocked s.mode = true) → completesHeader s T = false →
      sealsHeader s T = false → t.hdrCsum = s.hdrCsum) ∧
    (completesHeader s T = true → t.header = headerFields s.params t.hbuf) ∧
    (sealsHeader s T = true → t.hdrCsum = s.acc ^^^ 0xFFFFFFFF#32)

/-! ## The checksum engine -/

/-- `CRC_START` (R135), accepted in every mode. -/
def Obligations.CrcStartOpensRawFlow : Prop :=
  ∀ (hi : BitVec 24) (s : State),
    decode s.mode 0x4400000001#39 = .crcStart 0#24 ∧
    exec (.crcStart hi) s = .next { s with
      acc := 0xFFFFFFFF#32, pcnt := 0#32, done := false, accept := false, crcErr := false,
      short := false, lenerr := false, extra := false, mode := .raw, rdata := 0#32 }

/-- `PUSH b` in RAW (R136): the byte is absorbed, `PCNT` counts it and stays at `0xFFFFFFFF`. -/
def Obligations.PushInRawAbsorbs : Prop :=
  ∀ (hi : BitVec 24) (b : Byte) (s : State), s.mode = .raw →
    decode s.mode (0x4600000000#39 ||| (hi ++ b).setWidth 39) = .pushRaw hi b ∧
    exec (.pushRaw hi b) s = .next { s with
      acc := crcUpdate s.acc b,
      pcnt := if s.pcnt = 0xFFFFFFFF#32 then 0xFFFFFFFF#32 else s.pcnt + 1#32, rdata := 0#32 }

/-- `RD CRC_OUT` (R137) and `RD CRC_ACC` (R138), valid in every mode, without a state change. -/
def Obligations.EngineReads : Prop :=
  ∀ (w : Word) (s : State),
    decode s.mode 0x0800000000#39 = .rdCrcOut 0#32 ∧
    decode s.mode 0x0900000000#39 = .rdCrcAcc 0#32 ∧
    exec (.rdCrcOut w) s = .next { s with rdata := s.acc ^^^ 0xFFFFFFFF#32 } ∧
    exec (.rdCrcAcc w) s = .next { s with rdata := s.acc }

/-- The table form of the byte step equals the bit form for every `acc` and `b` (R132). -/
def Obligations.CrcTableFormEqualsBitForm : Prop :=
  ∀ (acc : Word) (b : Byte),
    crcUpdate acc b = (acc >>> 8) ^^^ crcTab ((acc ^^^ b.setWidth 32).extractLsb' 0 8)

/-- Two different byte lists of the same length whose differing bits lie within 32 consecutive positions
have different checksums (R142), in particular when they differ inside four consecutive bytes. -/
def Obligations.BurstsOf32BitsAreDetected : Prop :=
  (∀ A B : List Byte, A.length = B.length → A ≠ B → DifferWithin32 A B → crc32 A ≠ crc32 B) ∧
  (∀ pre U V post : List Byte, U.length = V.length → U.length ≤ 4 → U ≠ V →
    crc32 (pre ++ U ++ post) ≠ crc32 (pre ++ V ++ post))

/-- What every transaction does to `ACC` (R26): set to `0xFFFFFFFF` by `CRC_START`, `RX_BEGIN`, `CLR`, to
the remainder of the zero-checksum header by `TX_BEGIN`, updated by a `DIN` write that falls in the
covered span, and otherwise left alone; and its reset value. -/
def Obligations.AccumulatorChangesOnlyBy : Prop :=
  (∀ (T : TxnWord) (s t : State), stepWord T s = .next t →
    t.acc =
      if commandOf T = some 1#8 ∨ commandOf T = some 4#8 ∨ commandOf T = some 8#8 then 0xFFFFFFFF#32
      else if commandOf T = some 6#8 then
        crcAbsorb 0xFFFFFFFF#32 (encodeHeader s.params ⟨s.hdrType, s.hdrSeq, s.hdrLen, 0#32⟩)
      else match pushedByte T, s.mode with
        | some b, .raw => crcUpdate s.acc b
        | some b, .rxh =>
          if s.params.csumOff ≤ s.hcnt.toNat then crcUpdate s.acc 0#8 else crcUpdate s.acc b
        | some b, .rxp =>
          if s.hdrType = 2#32 ∧ s.pcnt < s.hdrLen then crcUpdate s.acc b else s.acc
        | some b, .txp =>
          if s.hdrType = 2#32 ∧ s.pcnt < s.hdrLen then crcUpdate s.acc b else s.acc
        | _, _ => s.acc) ∧
  (∀ p : Params, (State.resetWith p).acc = 0xFFFFFFFF#32)

/-- The RAW flow (R139): from any state, after `CRC_START` and any transactions that neither open a flow
nor clear the block, `CRC_OUT` reads the checksum of the bytes pushed, in order, and `PCNT` their number
(saturated). -/
def Obligations.RawFlowComputesChecksum : Prop :=
  ∀ (s : State) (Ts : List TxnWord),
    (∀ T ∈ Ts, opensFlow T = false ∧ isClr T = false) →
    ∃ t reads, runTxns (cmdTxn 1#8 :: Ts) s = .next (t, reads) ∧
      t.mode = .raw ∧ t.pcnt.toNat = min (pushedBytes Ts).length 0xFFFFFFFF ∧
      ∀ w : Word, exec (.rdCrcOut w) t = .next { t with rdata := crc32 (pushedBytes Ts) }

/-! ## The codec -/

/-- `ENC` (R164) and `ENC0` (R165): `HBUF` gets the wire image, byte for byte in the order of the fields,
in IDLE and RAW; in RXH, RXP, TXP only `ERR_SEQ` is set. -/
def Obligations.EncodeCommandsFillHbuf : Prop :=
  ∀ (hi : BitVec 24) (s : State),
    decode s.mode 0x4400000002#39 = .enc 0#24 ∧
    decode s.mode 0x4400000003#39 = .enc0 0#24 ∧
    (s.mode = .idle ∨ s.mode = .raw →
      exec (.enc hi) s = .next { s with
        hbuf := serType s.params s.hdrType ++ ser4 s.params.endian s.hdrSeq ++
          ser4 s.params.endian s.hdrLen ++ ser4 s.params.endian s.hdrCsum,
        hcnt := BitVec.ofNat 5 s.params.hdrSize, rptr := 0#5, rdata := 0#32 } ∧
      exec (.enc0 hi) s = .next { s with
        hbuf := serType s.params s.hdrType ++ ser4 s.params.endian s.hdrSeq ++
          ser4 s.params.endian s.hdrLen ++ [0#8, 0#8, 0#8, 0#8],
        hcnt := BitVec.ofNat 5 s.params.hdrSize, rptr := 0#5, rdata := 0#32 }) ∧
    (s.mode = .rxh ∨ s.mode = .rxp ∨ s.mode = .txp →
      exec (.enc hi) s = .next { s with errSeq := true, rdata := 0#32 } ∧
      exec (.enc0 hi) s = .next { s with errSeq := true, rdata := 0#32 })

/-- `POP` (R166): the next byte of the wire image while `RPTR < HCNT`, otherwise 0 and `UNDERRUN`; valid in
every mode. The premise is the invariant's: `HCNT` is within `HBUF` (R51 (b), R20). -/
def Obligations.PopReturnsTheNextByte : Prop :=
  ∀ (w : Word) (s : State), s.Inv →
    decode s.mode 0x0700000000#39 = .pop 0#32 ∧
    (s.rptr.toNat < s.hcnt.toNat → ∃ b : Byte, s.hbuf[s.rptr.toNat]? = some b ∧
      exec (.pop w) s = .next { s with rdata := b.setWidth 32, rptr := s.rptr + 1#5 }) ∧
    (s.rptr = s.hcnt → exec (.pop w) s = .next { s with rdata := 0#32, underrun := true })

/-- `RD HCNT` (R167) and `RD PCNT` (R185), valid in every mode, without a state change. -/
def Obligations.CounterReads : Prop :=
  ∀ (w : Word) (s : State),
    decode s.mode 0x0A00000000#39 = .rdHcnt 0#32 ∧
    decode s.mode 0x0B00000000#39 = .rdPcnt 0#32 ∧
    exec (.rdHcnt w) s = .next { s with rdata := s.hcnt.setWidth 32 } ∧
    exec (.rdPcnt w) s = .next { s with rdata := s.pcnt }

/-- The codec's round trip (R154): decoding an encoded header gives it back with nothing left over, and
every buffer of at least `HDR_SIZE` bytes is the encoding of what it decodes to, then the slice. -/
def Obligations.HeaderCodecRoundTrip : Prop :=
  (∀ (p : Params) (h : Header), h.typ.toNat < 2 ^ p.typeWidth →
    decodeHeader p (encodeHeader p h) = some (h, [])) ∧
  (∀ (p : Params) (buf : List Byte), p.hdrSize ≤ buf.length →
    ∃ h slice, decodeHeader p buf = some (h, slice) ∧ h.typ.toNat < 2 ^ p.typeWidth ∧
      encodeHeader p h ++ slice = buf) ∧
  (∀ (p : Params) (buf : List Byte), buf.length < p.hdrSize → decodeHeader p buf = none)

/-- The encode flow (R168): from IDLE or RAW, writing the four header registers, then `ENC` (or `ENC0`),
then popping `HDR_SIZE` bytes returns the encoding of the four values (with the checksum field 0) and
sets no error flag. -/
def Obligations.EncodeFlowReturnsTheWireImage : Prop :=
  ∀ (s : State) (h : Header), (s.mode = .idle ∨ s.mode = .raw) →
    h.typ.toNat < 2 ^ s.params.typeWidth →
    ∀ (op : Byte) (csum : Word), (op = 2#8 ∧ csum = h.csum) ∨ (op = 3#8 ∧ csum = 0#32) →
      ∃ t reads, runTxns (setHdrTxns h.typ h.seq h.len ++ [writeTxn 3 h.csum, cmdTxn op] ++
          popTxns s.params.hdrSize) s = .next (t, reads) ∧
        reads.drop 5 = (encodeHeader s.params { h with csum := csum }).map (·.setWidth 32) ∧
        t.errCmd = s.errCmd ∧ t.errSeq = s.errSeq ∧ t.underrun = s.underrun

/-- Among transactions, `HBUF` changes only by `CLR`, by an accepted `ENC` or `ENC0`, by a sealing `TX_END`, and by a push in RXH,
which changes byte `HCNT` and no other (R27, R352). -/
def Obligations.HbufChangesOnlyBy : Prop :=
  ∀ (T : TxnWord) (s t : State), stepWord T s = .next t → isClr T = false →
    ((encodes T = false ∨ headerLocked s.mode = true) → sealsHeader s T = false →
      (pushedByte T = none ∨ s.mode ≠ .rxh) → t.hbuf = s.hbuf) ∧
    (∀ b : Byte, pushedByte T = some b → s.mode = .rxh → s.Inv →
      ∀ i : Nat, t.hbuf[i]? = if i = s.hcnt.toNat then some b else s.hbuf[i]?)

/-! ## The RX flow -/

/-- `RX_BEGIN` (R181), accepted in every mode. -/
def Obligations.RxBeginOpensRxFlow : Prop :=
  ∀ (hi : BitVec 24) (s : State),
    decode s.mode 0x4400000004#39 = .rxBegin 0#24 ∧
    exec (.rxBegin hi) s = .next { s with
      acc := 0xFFFFFFFF#32, hcnt := 0#5, rptr := 0#5, pcnt := 0#32, done := false, accept := false,
      crcErr := false, short := false, lenerr := false, extra := false, rxhdr := false,
      mode := .rxh, rdata := 0#32 }

/-- `PUSH b` in RXH (R182): the byte is stored as received and absorbed, the checksum field as zero; the
last one decodes the header. The premise is R51, which the rule uses. -/
def Obligations.PushInRxhTakesHeaderByte : Prop :=
  ∀ (hi : BitVec 24) (b : Byte) (s : State), s.mode = .rxh → s.Inv →
    decode s.mode (0x4600000000#39 ||| (hi ++ b).setWidth 39) = .pushRxh hi b ∧
    (s.hcnt.toNat + 1 < s.params.hdrSize →
      exec (.pushRxh hi b) s = .next { s with
        hbuf := s.hbuf.set s.hcnt.toNat b,
        acc := if s.hcnt.toNat ≥ s.params.csumOff then crcUpdate s.acc 0#8 else crcUpdate s.acc b,
        hcnt := s.hcnt + 1#5, rdata := 0#32 }) ∧
    (s.hcnt.toNat + 1 = s.params.hdrSize →
      ∃ h : Header, decodeHeader s.params (s.hbuf.set s.hcnt.toNat b) = some (h, []) ∧
        exec (.pushRxh hi b) s = .next { s with
          hbuf := s.hbuf.set s.hcnt.toNat b, acc := crcUpdate s.acc 0#8, hcnt := s.hcnt + 1#5,
          hdrType := h.typ, hdrSeq := h.seq, hdrLen := h.len, hdrCsum := h.csum,
          rxhdr := true, mode := .rxp, rdata := 0#32 })

/-- `PUSH b` in RXP (R183) and in TXP (R202): inside the covered span the byte is absorbed, outside it
`EXTRA` is set; `PCNT` counts it and saturates. -/
def Obligations.PushOfPayloadAbsorbsOrFlags : Prop :=
  ∀ (hi : BitVec 24) (b : Byte) (s r : State),
    r = { s with
      pcnt := if s.pcnt = 0xFFFFFFFF#32 then 0xFFFFFFFF#32 else s.pcnt + 1#32, rdata := 0#32 } →
    (s.mode = .rxp →
      decode s.mode (0x4600000000#39 ||| (hi ++ b).setWidth 39) = .pushRxp hi b ∧
      (s.hdrType = 2#32 ∧ s.pcnt < s.hdrLen →
        exec (.pushRxp hi b) s = .next { r with acc := crcUpdate s.acc b }) ∧
      (¬(s.hdrType = 2#32 ∧ s.pcnt < s.hdrLen) →
        exec (.pushRxp hi b) s = .next { r with extra := true })) ∧
    (s.mode = .txp →
      decode s.mode (0x4600000000#39 ||| (hi ++ b).setWidth 39) = .pushTxp hi b ∧
      (s.hdrType = 2#32 ∧ s.pcnt < s.hdrLen →
        exec (.pushTxp hi b) s = .next { r with acc := crcUpdate s.acc b }) ∧
      (¬(s.hdrType = 2#32 ∧ s.pcnt < s.hdrLen) →
        exec (.pushTxp hi b) s = .next { r with extra := true }))

/-- `RX_END` (R184): in RXH and RXP the verdict in the order `SHORT`, `LENERR`, `CRC_ERR`, exactly one of
the four flags, the flow closed; in the other modes `ERR_SEQ` and nothing else. -/
def Obligations.RxEndSetsTheVerdict : Prop :=
  ∀ (hi : BitVec 24) (s : State),
    decode s.mode 0x4400000005#39 = .rxEnd 0#24 ∧
    (s.mode = .rxh ∨ s.mode = .rxp → ∀ isShort isLenerr isMatch : Bool,
      (isShort = true ↔ s.hcnt.toNat < s.params.hdrSize) →
      (isLenerr = true ↔ isShort = false ∧ s.hdrType = 2#32 ∧ s.pcnt < s.hdrLen) →
      (isMatch = true ↔ s.acc ^^^ 0xFFFFFFFF#32 = s.hdrCsum) →
      exec (.rxEnd hi) s = .next { s with
        short := isShort, lenerr := isLenerr, crcErr := !isShort && !isLenerr && !isMatch,
        accept := !isShort && !isLenerr && isMatch, done := true, mode := .idle, rdata := 0#32 }) ∧
    (s.mode = .rxh ∨ s.mode = .rxp → ∀ t, exec (.rxEnd hi) s = .next t →
      t.accept.toNat + t.crcErr.toNat + t.short.toNat + t.lenerr.toNat = 1) ∧
    (s.mode = .idle ∨ s.mode = .raw ∨ s.mode = .txp →
      exec (.rxEnd hi) s = .next { s with errSeq := true, rdata := 0#32 })

/-- The RX flow (R186): from any state, `RX_BEGIN`, then the bytes of a frame pushed with no other write
to `CMD` between, then `RX_END`, gives the verdict of `validate` (a), the decoded header and the counts
(b), (c), `EXTRA` (d) and the recomputed checksum (e). -/
def Obligations.RxFlowValidatesTheFrame : Prop :=
  ∀ (s : State) (Ts : List TxnWord) (F : List Byte), s.Inv →
    (∀ T ∈ Ts, commandOf T = none) → pushedBytes Ts = F →
    F.length ≤ s.params.hdrSize + 0xFFFFFFFF →
    ∃ t reads, runTxns (cmdTxn 4#8 :: (Ts ++ [cmdTxn 5#8])) s = .next (t, reads) ∧
      (t.done = true ∧ t.mode = .idle ∧
        t.accept = decide (validate s.params F = .accept) ∧
        t.crcErr = decide (validate s.params F = .crcErr) ∧
        t.short = decide (validate s.params F = .short) ∧
        t.lenerr = decide (validate s.params F = .lenerr)) ∧
      (∀ h P, decodeHeader s.params F = some (h, P) →
        t.header = h ∧ t.rxhdr = true ∧ t.hcnt.toNat = s.params.hdrSize ∧
        t.hbuf = F.take s.params.hdrSize ∧ t.pcnt.toNat = P.length ∧
        (t.extra = true ↔ (h.typ = 2#32 ∧ h.len.toNat < P.length) ∨ (h.typ ≠ 2#32 ∧ 0 < P.length)) ∧
        (t.accept = true ∨ t.crcErr = true → ∀ w : Word,
          exec (.rdCrcOut w) t = .next { t with rdata := crc32 (checksumSpan s.params h P) })) ∧
      (decodeHeader s.params F = none →
        t.header = s.header ∧ t.rxhdr = false ∧ t.hcnt.toNat = F.length ∧ t.pcnt = 0#32 ∧
        t.extra = false)

/-! ## The TX flow -/

/-- `TX_BEGIN` (R201), accepted in every mode: the whole header with four zero bytes in the checksum field
is absorbed in one step. -/
def Obligations.TxBeginAbsorbsTheHeader : Prop :=
  ∀ (hi : BitVec 24) (s : State),
    decode s.mode 0x4400000006#39 = .txBegin 0#24 ∧
    exec (.txBegin hi) s = .next { s with
      acc := (serType s.params s.hdrType ++ ser4 s.params.endian s.hdrSeq ++
        ser4 s.params.endian s.hdrLen ++ [0#8, 0#8, 0#8, 0#8]).foldl crcUpdate 0xFFFFFFFF#32,
      hcnt := 0#5, rptr := 0#5, pcnt := 0#32, done := false, accept := false, crcErr := false,
      short := false, lenerr := false, extra := false, rxhdr := false, mode := .txp,
      rdata := 0#32 }

/-- `TX_END` (R203): in TXP the checksum is written and the header encoded, or `LENERR` is set when payload
is missing; in the other modes `ERR_SEQ` and nothing else. -/
def Obligations.TxEndSealsTheHeader : Prop :=
  ∀ (hi : BitVec 24) (s : State),
    decode s.mode 0x4400000007#39 = .txEnd 0#24 ∧
    (s.mode = .txp → ¬(s.hdrType = 2#32 ∧ s.pcnt < s.hdrLen) →
      exec (.txEnd hi) s = .next { s with
        lenerr := false, hdrCsum := s.acc ^^^ 0xFFFFFFFF#32,
        hbuf := encodeHeader s.params ⟨s.hdrType, s.hdrSeq, s.hdrLen, s.acc ^^^ 0xFFFFFFFF#32⟩,
        hcnt := BitVec.ofNat 5 s.params.hdrSize, rptr := 0#5, done := true, mode := .idle,
        rdata := 0#32 }) ∧
    (s.mode = .txp → s.hdrType = 2#32 ∧ s.pcnt < s.hdrLen →
      exec (.txEnd hi) s = .next { s with
        lenerr := true, done := true, mode := .idle, rdata := 0#32 }) ∧
    (s.mode = .idle ∨ s.mode = .raw ∨ s.mode = .rxh ∨ s.mode = .rxp →
      exec (.txEnd hi) s = .next { s with errSeq := true, rdata := 0#32 })

/-- The TX flow (R204): from IDLE or RAW, `SEAL` delivers the bytes of `seal` and stores its checksum, or
`LENERR` and no byte when payload is missing; `EXTRA` says that more was pushed than is covered. -/
def Obligations.TxFlowSealsThePacket : Prop :=
  ∀ (s : State) (typ seq len : Word) (P : List Byte), (s.mode = .idle ∨ s.mode = .raw) →
    typ.toNat < 2 ^ s.params.typeWidth → P.length ≤ 0xFFFFFFFF →
    ∃ u popped t reads,
      runTxns (sealTxns typ seq len P) s = .next (u, reads) ∧
      runTxns (popTxns s.params.hdrSize) u = .next (t, popped) ∧
      u.done = true ∧ u.mode = .idle ∧
      u.hdrType = typ ∧ u.hdrSeq = seq ∧ u.hdrLen = len ∧
      (u.extra = true ↔ (typ = 2#32 ∧ len.toNat < P.length) ∨ (typ ≠ 2#32 ∧ 0 < P.length)) ∧
      (sealPacket s.params typ seq len P = none →
        u.lenerr = true ∧ u.hcnt = 0#5 ∧ u.hdrCsum = s.hdrCsum ∧
        popped = List.replicate s.params.hdrSize 0#32 ∧ t.underrun = true) ∧
      (∀ H, sealPacket s.params typ seq len P = some H →
        u.lenerr = false ∧ u.hdrCsum = (headerFields s.params H).csum ∧
        popped = H.map (·.setWidth 32) ∧
        t.errCmd = s.errCmd ∧ t.errSeq = s.errSeq ∧ t.underrun = s.underrun)

/-- Seal and validate agree (R205, first part): a sealed header followed by any bytes that begin with the
covered payload validates, and decodes to the sealed fields. -/
def Obligations.SealedPacketsValidate : Prop :=
  ∀ (p : Params) (typ seq len : Word) (P Q H : List Byte), typ.toNat < 2 ^ p.typeWidth →
    sealPacket p typ seq len P = some H → (typ = 2#32 → P.take len.toNat <+: Q) →
    validate p (H ++ Q) = .accept ∧
    ∃ c : Word, decodeHeader p (H ++ Q) = some (⟨typ, seq, len, c⟩, Q)

/-- A frame that validates, with exactly the payload its header covers, changed without changing its length
or its `type` and `length` fields, is rejected with `CRC_ERR` in two cases (R205 (a), (b)): the checksum
field is unchanged and the differing bits of the span lie within 32 consecutive positions; or the
checksum field alone has changed. Of any other change it says nothing. -/
def Obligations.CorruptedSealedFrameIsRejected : Prop :=
  ∀ (p : Params) (F G P Q : List Byte) (h k : Header),
    decodeHeader p F = some (h, P) → decodeHeader p G = some (k, Q) → F.length = G.length →
    validate p F = .accept → P.length = (if h.typ = 2#32 then h.len.toNat else 0) → F ≠ G →
    k.typ = h.typ → k.len = h.len →
    (k.csum = h.csum → DifferWithin32 (checksumSpan p h P) (checksumSpan p k Q) →
      validate p G = .crcErr) ∧
    (k.csum ≠ h.csum → k.seq = h.seq → Q = P → validate p G = .crcErr)

/-! ## Control and status -/

/-- `NOP` (R220), valid in every mode whatever the upper 24 bits, and a reserved command (R222, R103),
which sets `ERR_CMD` and nothing else. -/
def Obligations.NopAndReservedCommands : Prop :=
  ∀ (hi : BitVec 24) (op : Byte) (s : State),
    decode s.mode 0x4400000000#39 = .nop 0#24 ∧
    decode s.mode 0x44ABCDEF00#39 = .nop 0xABCDEF#24 ∧
    exec (.nop hi) s = .next { s with rdata := 0#32 } ∧
    (9 ≤ op.toNat →
      decode s.mode (0x4400000000#39 ||| (hi ++ op).setWidth 39) = .cmdRsvd hi op ∧
      exec (.cmdRsvd hi op) s = .next { s with errCmd := true, rdata := 0#32 })

/-- `CLR` (R221), accepted in every mode: every piece of state takes its reset value, and the state is the
one a reset step leaves (R341). -/
def Obligations.ClrRestoresTheResetState : Prop :=
  ∀ (hi : BitVec 24) (s : State),
    decode s.mode 0x4400000008#39 = .clr 0#24 ∧
    exec (.clr hi) s = .next { s with
      hdrType := 0#32, hdrSeq := 0#32, hdrLen := 0#32, hdrCsum := 0#32, acc := 0xFFFFFFFF#32,
      hbuf := List.replicate s.params.hdrSize 0#8, hcnt := 0#5, rptr := 0#5, pcnt := 0#32,
      mode := .idle, done := false, accept := false, crcErr := false, short := false,
      lenerr := false, extra := false, rxhdr := false, errCmd := false, errSeq := false,
      underrun := false, rdata := 0#32 } ∧
    (∀ (sel : Bool) (T : TxnWord), exec (.clr hi) s = step (s.present ⟨true, sel, T⟩))

/-- `PUSH b` in IDLE (R223): the byte is lost and `ERR_SEQ` set. -/
def Obligations.PushInIdleIsLost : Prop :=
  ∀ (hi : BitVec 24) (b : Byte) (s : State), s.mode = .idle →
    decode s.mode (0x4600000000#39 ||| (hi ++ b).setWidth 39) = .pushIdle hi b ∧
    exec (.pushIdle hi b) s = .next { s with errSeq := true, rdata := 0#32 }

/-- The five `PUSH` constructors are one transaction word: asked for in any mode, each has the effect of
the row of that mode (the model's reading, log entry 4). -/
def Obligations.PushRowsAreOneTransaction : Prop :=
  ∀ (hi : BitVec 24) (b : Byte) (s : State),
    encode (.pushIdle hi b) = encode (.pushRaw hi b) ∧
    encode (.pushIdle hi b) = encode (.pushRxh hi b) ∧
    encode (.pushIdle hi b) = encode (.pushRxp hi b) ∧
    encode (.pushIdle hi b) = encode (.pushTxp hi b) ∧
    ∀ i ∈ [Instr.pushIdle hi b, .pushRaw hi b, .pushRxh hi b, .pushRxp hi b, .pushTxp hi b],
      exec i s = stepWord (encode i) s

/-- `RD STATUS` (R224): the word of R38, bit by bit, with the derived flags of R37; nothing else changes,
so no flag is cleared by being read. -/
def Obligations.StatusReadLayout : Prop :=
  ∀ (w : Word) (s : State),
    decode s.mode 0x0500000000#39 = .rdStatus 0#32 ∧
    ∃ v : Word, exec (.rdStatus w) s = .next { s with rdata := v } ∧
      v.getLsbD 0 = s.done ∧ v.getLsbD 1 = s.accept ∧ v.getLsbD 2 = s.crcErr ∧
      v.getLsbD 3 = s.short ∧ v.getLsbD 4 = s.lenerr ∧ v.getLsbD 5 = s.extra ∧
      v.getLsbD 6 = s.rxhdr ∧
      (v.getLsbD 7 = true ↔ s.hdrType.toNat ≤ 3) ∧
      (v.getLsbD 8 = true ↔ s.hdrType ≠ 2#32 ∧ s.hdrLen ≠ 0#32) ∧
      v.getLsbD 9 = s.errCmd ∧ v.getLsbD 10 = s.errSeq ∧ v.getLsbD 11 = s.underrun ∧
      v.extractLsb' 12 3 = (match s.mode with
        | .idle => 0#3 | .raw => 1#3 | .rxh => 2#3 | .rxp => 3#3 | .txp => 4#3) ∧
      v.extractLsb' 15 17 = 0#17

/-- `RD CONFIG` (R225, R39): the constant of the build, by its layout and its four values; no step, reset
included, changes the parameters (R343). -/
def Obligations.ConfigIsConstant : Prop :=
  (∀ (w : Word) (s : State),
    decode s.mode 0x0C00000000#39 = .rdConfig 0#32 ∧
    ∃ v : Word, exec (.rdConfig w) s = .next { s with rdata := v } ∧
      (v.getLsbD 0 = true ↔ s.params.endian = .be) ∧
      (v.getLsbD 1 = true ↔ s.params.typeBytes = .four) ∧ v.extractLsb' 2 6 = 0#6 ∧
      (v.extractLsb' 8 5).toNat = s.params.hdrSize ∧ v.extractLsb' 13 19 = 0#19 ∧
      (s.params = ⟨.le, .one⟩ → v = 0x00000D00#32) ∧
      (s.params = ⟨.le, .four⟩ → v = 0x00001002#32) ∧
      (s.params = ⟨.be, .one⟩ → v = 0x00000D01#32) ∧
      (s.params = ⟨.be, .four⟩ → v = 0x00001003#32)) ∧
  (∀ s t : State, step s = .next t → t.params = s.params)

/-- Reads of write-only registers return 0 (R226), writes to read-only registers change nothing (R227),
reserved indices read 0 and ignore writes (R228); none sets a flag. -/
def Obligations.WrongDirectionAndReservedAccesses : Prop :=
  ∀ (w : Word) (a : RegIndex) (s : State),
    decode s.mode 0x0400000000#39 = .rdCmd 0#32 ∧ decode s.mode 0x0600000000#39 = .rdDin 0#32 ∧
    exec (.rdCmd w) s = .next { s with rdata := 0#32 } ∧
    exec (.rdDin w) s = .next { s with rdata := 0#32 } ∧
    decode s.mode (0x4500000000#39 ||| w.setWidth 39) = .wrStatus w ∧
    decode s.mode (0x4700000000#39 ||| w.setWidth 39) = .wrDout w ∧
    decode s.mode (0x4800000000#39 ||| w.setWidth 39) = .wrCrcOut w ∧
    decode s.mode (0x4900000000#39 ||| w.setWidth 39) = .wrCrcAcc w ∧
    decode s.mode (0x4A00000000#39 ||| w.setWidth 39) = .wrHcnt w ∧
    decode s.mode (0x4B00000000#39 ||| w.setWidth 39) = .wrPcnt w ∧
    decode s.mode (0x4C00000000#39 ||| w.setWidth 39) = .wrConfig w ∧
    (∀ i ∈ [Instr.wrStatus w, .wrDout w, .wrCrcOut w, .wrCrcAcc w, .wrHcnt w, .wrPcnt w, .wrConfig w],
      exec i s = .next { s with rdata := 0#32 }) ∧
    (13 ≤ a.toNat →
      decode s.mode (packWord true a w) = .wrRsvd a w ∧
      decode s.mode (packWord false a w) = .rdRsvd a w ∧
      exec (.wrRsvd a w) s = .next { s with rdata := 0#32 } ∧
      exec (.rdRsvd a w) s = .next { s with rdata := 0#32 })

/-! ## Rules over every transaction -/

/-- A read of any index but 7 has no side effect; `DOUT` is the only register whose read changes state
(R42, R67). -/
def Obligations.OnlyDoutReadsChangeState : Prop :=
  ∀ (T : TxnWord) (s : State), weField T = false → indexField T ≠ 7#6 →
    ∃ v : Word, stepWord T s = .next { s with rdata := v }

/-- Every cause of `ERR_SEQ`, by mode, and that the offending transaction has no other effect; nothing else
sets it (R302). -/
def Obligations.SequenceErrorCauses : Prop :=
  ∀ (T : TxnWord) (s : State),
    (seqMisuse s.mode T = true → stepWord T s = .next { s with errSeq := true, rdata := 0#32 }) ∧
    (seqMisuse s.mode T = false → ∀ t, stepWord T s = .next t →
      t.errSeq = if isClr T then false else s.errSeq)

/-- The three sticky flags (R36): each is set by its cause, which changes nothing else, and cleared only
by `CLR` and reset; one transaction has at most one of the causes; the reset value of all three is 0. -/
def Obligations.StickyFlagsOnlyClearedByClr : Prop :=
  (∀ (T : TxnWord) (s t : State), s.Inv → stepWord T s = .next t →
    (t.errCmd = if isClr T then false else s.errCmd || reservedCommand T) ∧
    (t.errSeq = if isClr T then false else s.errSeq || seqMisuse s.mode T) ∧
    (t.underrun = if isClr T then false else s.underrun || (readsDout T && s.rptr == s.hcnt)) ∧
    ((reservedCommand T).toNat + (seqMisuse s.mode T).toNat +
      (readsDout T && s.rptr == s.hcnt).toNat ≤ 1) ∧
    (reservedCommand T = true → t = { s with errCmd := true, rdata := 0#32 }) ∧
    (seqMisuse s.mode T = true → t = { s with errSeq := true, rdata := 0#32 }) ∧
    ((readsDout T && s.rptr == s.hcnt) = true → t = { s with underrun := true, rdata := 0#32 })) ∧
  (∀ p : Params, (State.resetWith p).errCmd = false ∧ (State.resetWith p).errSeq = false ∧
    (State.resetWith p).underrun = false)

/-- The six flow flags (R34) are cleared together by the flow-opening commands and by `CLR`, and no
other transaction clears any of them. -/
def Obligations.FlowFlagsClearedOnlyTogether : Prop :=
  ∀ (T : TxnWord) (s t : State), s.Inv → stepWord T s = .next t →
    ((opensFlow T || isClr T) = true →
      t.done = false ∧ t.accept = false ∧ t.crcErr = false ∧ t.short = false ∧ t.lenerr = false ∧
      t.extra = false) ∧
    ((opensFlow T || isClr T) = false →
      (s.done = true → t.done = true) ∧ (s.accept = true → t.accept = true) ∧
      (s.crcErr = true → t.crcErr = true) ∧ (s.short = true → t.short = true) ∧
      (s.lenerr = true → t.lenerr = true) ∧ (s.extra = true → t.extra = true))

/-- `RXHDR` (R35): set by the push that completes the header, cleared by `RX_BEGIN`, `TX_BEGIN`, `CLR` and
every accepted host write to a header register, and changed by no other transaction. -/
def Obligations.RxhdrSetAndCleared : Prop :=
  ∀ (T : TxnWord) (s t : State), stepWord T s = .next t →
    t.rxhdr =
      if completesHeader s T = true then true
      else if commandOf T = some 4#8 ∨ commandOf T = some 6#8 ∨ commandOf T = some 8#8 ∨
        (writesHeader T = true ∧ (s.mode = .idle ∨ s.mode = .raw)) then false
      else s.rxhdr

/-- How each transaction advances `MODE`, `HCNT`, `RPTR`, `PCNT`: the table of R33. -/
def Obligations.SequencingStateFollowsTheTable : Prop :=
  ∀ (T : TxnWord) (s t : State), stepWord T s = .next t →
    (t.mode, t.hcnt, t.rptr, t.pcnt) = sequencingTable s T

/-- Which transactions may be repeated (R67): header register writes, in every mode, and `NOP`, `CRC_START`,
`RX_BEGIN`, `TX_BEGIN`, `ENC`, `ENC0`, `CLR` have the effect of one when done twice; the second `RX_END` or
`TX_END` sets `ERR_SEQ`. -/
def Obligations.IdempotentTransactions : Prop :=
  ∀ (T : TxnWord) (s t : State), stepWord T s = .next t →
    (writesHeader T = true ∨ (∃ op ∈ [0#8, 1#8, 2#8, 3#8, 4#8, 6#8, 8#8], commandOf T = some op) →
      stepWord T t = .next t) ∧
    (commandOf T = some 5#8 ∨ commandOf T = some 7#8 →
      stepWord T t = .next { t with errSeq := true })

/-- The invariant of every reachable state (R51) is kept by every step from every state that has it. -/
def Obligations.StepKeepsTheInvariant : Prop :=
  ∀ s t : State, s.Inv → step s = .next t → t.Inv

/-- The reset state of every build has the invariant (R51) and the accumulator invariant; and the machine
after reset is that of the build with the spec's default parameters (log entry 1). -/
def Obligations.ResetMeetsTheInvariants : Prop :=
  (∀ p : Params, (State.resetWith p).Inv ∧ (State.resetWith p).FlowInv) ∧
  State.reset = State.resetWith ⟨.le, .one⟩

/-- The accumulator invariant, kept by every step: in RAW, `ACC` is the remainder of some list of `PCNT`
bytes (saturated) and `EXTRA` is clear; in RXH, of the `HCNT` header bytes in `HBUF` with the checksum
field as zeros, and `EXTRA` is clear; in RXP and TXP, of the covered span of some payload of `PCNT` bytes
(saturated), and `EXTRA` says whether that payload reaches beyond the span; and no state has `LENERR`
together with `EXTRA` (R135, R136, R182, R183, R201, R202, R305). That the bytes are the ones pushed is
said by the statements about runs, not here. -/
def Obligations.StepKeepsTheAccumulatorInvariant : Prop :=
  ∀ s t : State, s.Inv → s.FlowInv → step s = .next t → t.FlowInv
end

