-- ==== Sys2Proof/Laws/Crc.lean ====
section
/-! SUPPORT. The engine over lists of bytes (spec/40_crc32.md R131, R133): the register is run over one part
of a list and then over the rest. -/

namespace Sys2Proof.Machine

@[simp] theorem crcAbsorb_nil (acc : Word) : crcAbsorb acc [] = acc := rfl

@[simp] theorem crcAbsorb_cons (acc : Word) (b : Byte) (L : List Byte) :
    crcAbsorb acc (b :: L) = crcAbsorb (crcUpdate acc b) L := rfl

theorem crcAbsorb_append (acc : Word) (L M : List Byte) :
    crcAbsorb acc (L ++ M) = crcAbsorb (crcAbsorb acc L) M := by
  simp [crcAbsorb]

/-- Absorbing one more byte at the end: what a push does. -/
theorem crcAbsorb_concat (acc : Word) (L : List Byte) (b : Byte) :
    crcAbsorb acc (L ++ [b]) = crcUpdate (crcAbsorb acc L) b := by
  simp [crcAbsorb]

/-- The final XOR loses nothing (R133, R138). -/
theorem crc32_inj_acc {L M : List Byte} :
    crc32 L = crc32 M ↔ crcAbsorb crcInit L = crcAbsorb crcInit M := by
  simp [crc32]

end Sys2Proof.Machine
end

