-- ==== Sys2Proof/Laws/Decode.lean ====
section
/-! SUPPORT. The bits and the fields of a packed transaction word, and the two parts of a data word: what
decoding and encoding claims rest on (spec/30_encoding.md R92, R100). -/

namespace Sys2Proof

/-- Bit by bit (R92). -/
theorem getLsbD_packWord (we : Bool) (a : RegIndex) (w : Word) (i : Nat) :
    (packWord we a w).getLsbD i =
      if i < 32 then w.getLsbD i
      else if i < 38 then a.getLsbD (i - 32)
      else (decide (i = 38) && we) := by
  have h : (packWord we a w).getLsbD i =
      if i < 32 then w.getLsbD i else (BitVec.ofBool we ++ a).getLsbD (i - 32) :=
    BitVec.getLsbD_append
  rw [h, BitVec.getLsbD_append, BitVec.getLsbD_ofBool]
  by_cases h1 : i < 32
  · simp [h1]
  · by_cases h2 : i < 38
    · simp [h1, h2, show i - 32 < 6 by omega]
    · simp [h1, h2, show ¬i - 32 < 6 by omega, show (i - 32 - 6 = 0) = (i = 38) by
        simp only [eq_iff_iff]; omega]

@[simp] theorem weField_packWord (we : Bool) (a : RegIndex) (w : Word) :
    weField (packWord we a w) = we := by
  simp only [weField, getLsbD_packWord]
  simp

@[simp] theorem indexField_packWord (we : Bool) (a : RegIndex) (w : Word) :
    indexField (packWord we a w) = a := by
  ext i hi
  simp only [indexField, BitVec.getElem_extractLsb', getLsbD_packWord]
  simp [BitVec.getLsbD_eq_getElem hi, show 32 + i < 38 by omega]

@[simp] theorem wdataField_packWord (we : Bool) (a : RegIndex) (w : Word) :
    wdataField (packWord we a w) = w := by
  ext i hi
  simp only [wdataField, BitVec.getElem_extractLsb', getLsbD_packWord]
  simp [hi]

/-- A word is its three fields (R92). -/
theorem packWord_fields (T : TxnWord) :
    packWord (weField T) (indexField T) (wdataField T) = T := by
  apply BitVec.eq_of_getLsbD_eq
  intro i hi
  simp only [getLsbD_packWord, weField, indexField, wdataField, BitVec.getLsbD_extractLsb']
  grind

/-- Two words with the same fields are the same word (R92). -/
theorem txnWord_ext {T T' : TxnWord} (h1 : weField T = weField T')
    (h2 : indexField T = indexField T') (h3 : wdataField T = wdataField T') : T = T' := by
  rw [← packWord_fields T, ← packWord_fields T', h1, h2, h3]

theorem getLsbD_joinByte (hi : BitVec 24) (b : Byte) (i : Nat) :
    (joinByte hi b).getLsbD i = if i < 8 then b.getLsbD i else hi.getLsbD (i - 8) :=
  BitVec.getLsbD_append

@[simp] theorem lowByte_joinByte (hi : BitVec 24) (b : Byte) : lowByte (joinByte hi b) = b := by
  ext i h
  simp only [lowByte, BitVec.getElem_extractLsb', getLsbD_joinByte]
  simp [h]

@[simp] theorem highBits_joinByte (hi : BitVec 24) (b : Byte) : highBits (joinByte hi b) = hi := by
  ext i h
  simp only [highBits, BitVec.getElem_extractLsb', getLsbD_joinByte]
  simp [BitVec.getLsbD_eq_getElem h]

/-- A data word is its upper 24 bits and its low byte (R100). -/
@[simp] theorem joinByte_parts (w : Word) : joinByte (highBits w) (lowByte w) = w := by
  apply BitVec.eq_of_getLsbD_eq
  intro i hi
  simp only [getLsbD_joinByte, highBits, lowByte, BitVec.getLsbD_extractLsb']
  grind

@[simp] theorem lowByte_zextByte (b : Byte) : lowByte (Machine.zextByte b) = b := by
  ext i h
  simp only [lowByte, Machine.zextByte, BitVec.getElem_extractLsb', BitVec.getLsbD_setWidth]
  simp [h, show i < 32 by omega]

/-- `T = c or zext_39(wdata)`, the way the rules write an encoding: the write of `wdata` to index `a`. -/
theorem packWord_eq_or (we : Bool) (a : RegIndex) (w : Word) :
    packWord we a w = packWord we a 0#32 ||| w.setWidth 39 := by
  apply BitVec.eq_of_getLsbD_eq
  intro i hi
  simp only [getLsbD_packWord, BitVec.getLsbD_or, BitVec.getLsbD_setWidth]
  have := @BitVec.getLsbD_of_ge 32 w i
  grind

end Sys2Proof
end

