-- ==== Sys2Proof/Laws/Flags.lean ====
section
/-! SUPPORT. The bits of the status and configuration words (spec/10_state.md R38, R39) and the tests the
flags are made of. -/

namespace Sys2Proof.Machine

@[simp] theorem getLsbD_bitAt (n : Nat) (b : Bool) (i : Nat) :
    (bitAt n b).getLsbD i = (decide (i < 32) && decide (i = n) && b) := by
  simp only [bitAt, BitVec.getLsbD_shiftLeft, BitVec.getLsbD_setWidth, BitVec.getLsbD_ofBool]
  by_cases h : i < 32 <;> by_cases h2 : i < n <;> by_cases h3 : i = n <;>
    simp [h, h2, h3] ; omega

/-- The test of R183, R184, R202, R203, in the spec's words. -/
theorem payloadMissing_iff (s : State) :
    payloadMissing s = true ↔ s.hdrType = 2#32 ∧ s.pcnt < s.hdrLen := by
  simp [payloadMissing, typeData]

theorem typeKnown_iff (s : State) : typeKnown s = true ↔ s.hdrType.toNat ≤ 3 := by
  simp [typeKnown, typeAck]

/-- `TYPE_KNOWN` in the enumeration's own words: "the type is one of the four enumerated values" (R37,
R13). -/
theorem typeKnown_iff_enumerated (s : State) : typeKnown s = true ↔
    s.hdrType = typeStart ∨ s.hdrType = typeEnd ∨ s.hdrType = typeData ∨ s.hdrType = typeAck := by
  simp only [typeKnown_iff, typeStart, typeEnd, typeData, typeAck, ← BitVec.toNat_inj,
    BitVec.toNat_ofNat]
  omega

theorem ctrlLenNz_iff (s : State) :
    ctrlLenNz s = true ↔ s.hdrType ≠ 2#32 ∧ s.hdrLen ≠ 0#32 := by
  simp [ctrlLenNz, typeData]

/-- `headerLocked` is `MODE in {RXH, RXP, TXP}` (R25). -/
theorem headerLocked_iff (m : Mode) : headerLocked m = true ↔ m = .rxh ∨ m = .rxp ∨ m = .txp := by
  cases m <;> simp [headerLocked]

end Sys2Proof.Machine
end

