-- ==== Sys2Proof/Laws/Header.lean ====
section
/-! SUPPORT. Lengths, bytes and bits of the wire image (spec/00_scope.md R17, spec/30_encoding.md R91): what
claims about encoding and decoding a header rest on. -/

namespace Sys2Proof.Machine

@[simp] theorem length_ser4 (e : Endian) (v : Word) : (ser4 e v).length = 4 := by
  cases e <;> rfl

/-- The type field takes `TYPE_BYTES` bytes (R93). -/
@[simp] theorem length_serType (p : Params) (t : Word) : (serType p t).length = p.typeSize := by
  unfold serType Params.typeSize
  cases p.typeBytes <;> simp

/-- An encoded header has `HDR_SIZE` bytes (R150). -/
@[simp] theorem length_encodeHeader (p : Params) (h : Header) :
    (encodeHeader p h).length = p.hdrSize := by
  simp [encodeHeader, Params.hdrSize]

@[simp] theorem length_encodeZeroed (p : Params) (h : Header) :
    (encodeZeroed p h).length = p.hdrSize := length_encodeHeader p _

/-- The checksum field is the last four bytes of a header (R91, R11). -/
theorem csumOff_add_four (p : Params) : p.csumOff + 4 = p.hdrSize := rfl

/-- `HDR_SIZE` is 13 or 16 (R11). -/
theorem hdrSize_eq (p : Params) : p.hdrSize = 13 ∨ p.hdrSize = 16 := by
  unfold Params.hdrSize Params.typeSize
  cases p.typeBytes <;> simp

/-- A header size fits the five bits of `HCNT` (R29). -/
@[simp] theorem toNat_ofNat_hdrSize (p : Params) : (BitVec.ofNat 5 p.hdrSize).toNat = p.hdrSize := by
  rcases hdrSize_eq p with h | h <;> simp [h]

@[simp] theorem ser4_zero (e : Endian) : ser4 e 0#32 = [0#8, 0#8, 0#8, 0#8] := by
  cases e <;> rfl

/-- Bit by bit, a word made of four bytes, the most significant first. -/
theorem getLsbD_cat4 (b0 b1 b2 b3 : Byte) (i : Nat) :
    BitVec.getLsbD (w := 32) (b0 ++ b1 ++ b2 ++ b3) i =
      if i < 8 then b3.getLsbD i
      else if i < 16 then b2.getLsbD (i - 8)
      else if i < 24 then b1.getLsbD (i - 16)
      else b0.getLsbD (i - 24) := by
  have h1 : BitVec.getLsbD (w := 32) (b0 ++ b1 ++ b2 ++ b3) i =
      if i < 8 then b3.getLsbD i else (b0 ++ b1 ++ b2).getLsbD (i - 8) := BitVec.getLsbD_append
  have h2 : (b0 ++ b1 ++ b2).getLsbD (i - 8) =
      if i - 8 < 8 then b2.getLsbD (i - 8) else (b0 ++ b1).getLsbD (i - 8 - 8) :=
    BitVec.getLsbD_append
  have h3 : (b0 ++ b1).getLsbD (i - 8 - 8) =
      if i - 8 - 8 < 8 then b1.getLsbD (i - 8 - 8) else b0.getLsbD (i - 8 - 8 - 8) :=
    BitVec.getLsbD_append
  rw [h1, h2, h3]
  by_cases i < 8 <;> by_cases i < 16 <;> by_cases i < 24 <;> simp_all [Nat.sub_sub] <;> grind

/-- A byte of the second of two lists. -/
theorem byteAt_append_right (L M : List Byte) (i : Nat) :
    byteAt (L ++ M) (L.length + i) = byteAt M i := by
  simp [byteAt, List.getD_eq_getElem?_getD, List.getElem?_append_right]

/-- A byte of the first of two lists. -/
theorem byteAt_append_left (L M : List Byte) (i : Nat) (h : i < L.length) :
    byteAt (L ++ M) i = byteAt L i := by
  simp [byteAt, List.getD_eq_getElem?_getD, List.getElem?_append_left h]

theorem byteAt_eq_getElem (L : List Byte) (i : Nat) (h : i < L.length) : byteAt L i = L[i] := by
  simp [byteAt, h]

/-- Everything `decodeHeader` can answer (R151). -/
theorem decodeHeader_eq_some {p : Params} {buf : List Byte} {h : Header} {slice : List Byte} :
    decodeHeader p buf = some (h, slice) ↔
      p.hdrSize ≤ buf.length ∧ h = headerFields p buf ∧ slice = buf.drop p.hdrSize := by
  unfold decodeHeader
  split
  · simp; omega
  · simp only [Option.some.injEq, Prod.mk.injEq]
    constructor
    · rintro ⟨rfl, rfl⟩; exact ⟨by omega, rfl, rfl⟩
    · rintro ⟨_, rfl, rfl⟩; exact ⟨rfl, rfl⟩

theorem decodeHeader_eq_none {p : Params} {buf : List Byte} :
    decodeHeader p buf = none ↔ buf.length < p.hdrSize := by
  simp [decodeHeader]

/-- Everything `sealPacket` can answer (R200). -/
theorem sealPacket_eq_some {p : Params} {typ seq len : Word} {payload H : List Byte} :
    sealPacket p typ seq len payload = some H ↔
      ¬(typ = typeData ∧ payload.length < len.toNat) ∧
        H = encodeHeader p
          ⟨typ, seq, len, crc32 (checksumSpan p ⟨typ, seq, len, 0#32⟩ payload)⟩ := by
  unfold sealPacket
  split
  · next h => exact ⟨nofun, fun h' => absurd h h'.1⟩
  · simp_all [eq_comm]

/-- The covered span does not depend on the checksum field (R152). -/
theorem checksumSpan_csum (p : Params) (h : Header) (c : Word) (payload : List Byte) :
    checksumSpan p { h with csum := c } payload = checksumSpan p h payload := rfl

end Sys2Proof.Machine
end

