-- ==== Sys2Proof/Laws/State.lean ====
section
/-! SUPPORT. One lemma per field per update of the state, so that no proof unfolds an update: what each
shared operation leaves in each field. -/

namespace Sys2Proof.Machine

/-! `clearFlowFlags` -/

@[simp] theorem clearFlowFlags_hdrType (s : State) :
    (clearFlowFlags s).hdrType = s.hdrType := rfl
@[simp] theorem clearFlowFlags_hdrSeq (s : State) :
    (clearFlowFlags s).hdrSeq = s.hdrSeq := rfl
@[simp] theorem clearFlowFlags_hdrLen (s : State) :
    (clearFlowFlags s).hdrLen = s.hdrLen := rfl
@[simp] theorem clearFlowFlags_hdrCsum (s : State) :
    (clearFlowFlags s).hdrCsum = s.hdrCsum := rfl
@[simp] theorem clearFlowFlags_acc (s : State) :
    (clearFlowFlags s).acc = s.acc := rfl
@[simp] theorem clearFlowFlags_hbuf (s : State) :
    (clearFlowFlags s).hbuf = s.hbuf := rfl
@[simp] theorem clearFlowFlags_hcnt (s : State) :
    (clearFlowFlags s).hcnt = s.hcnt := rfl
@[simp] theorem clearFlowFlags_rptr (s : State) :
    (clearFlowFlags s).rptr = s.rptr := rfl
@[simp] theorem clearFlowFlags_pcnt (s : State) :
    (clearFlowFlags s).pcnt = s.pcnt := rfl
@[simp] theorem clearFlowFlags_mode (s : State) :
    (clearFlowFlags s).mode = s.mode := rfl
@[simp] theorem clearFlowFlags_done (s : State) :
    (clearFlowFlags s).done = false := rfl
@[simp] theorem clearFlowFlags_accept (s : State) :
    (clearFlowFlags s).accept = false := rfl
@[simp] theorem clearFlowFlags_crcErr (s : State) :
    (clearFlowFlags s).crcErr = false := rfl
@[simp] theorem clearFlowFlags_short (s : State) :
    (clearFlowFlags s).short = false := rfl
@[simp] theorem clearFlowFlags_lenerr (s : State) :
    (clearFlowFlags s).lenerr = false := rfl
@[simp] theorem clearFlowFlags_extra (s : State) :
    (clearFlowFlags s).extra = false := rfl
@[simp] theorem clearFlowFlags_rxhdr (s : State) :
    (clearFlowFlags s).rxhdr = s.rxhdr := rfl
@[simp] theorem clearFlowFlags_errCmd (s : State) :
    (clearFlowFlags s).errCmd = s.errCmd := rfl
@[simp] theorem clearFlowFlags_errSeq (s : State) :
    (clearFlowFlags s).errSeq = s.errSeq := rfl
@[simp] theorem clearFlowFlags_underrun (s : State) :
    (clearFlowFlags s).underrun = s.underrun := rfl
@[simp] theorem clearFlowFlags_params (s : State) :
    (clearFlowFlags s).params = s.params := rfl
@[simp] theorem clearFlowFlags_rdata (s : State) :
    (clearFlowFlags s).rdata = s.rdata := rfl
@[simp] theorem clearFlowFlags_inbox (s : State) :
    (clearFlowFlags s).inbox = s.inbox := rfl

/-! `setVerdict` -/

@[simp] theorem setVerdict_hdrType (v : Verdict) (s : State) :
    (setVerdict v s).hdrType = s.hdrType := rfl
@[simp] theorem setVerdict_hdrSeq (v : Verdict) (s : State) :
    (setVerdict v s).hdrSeq = s.hdrSeq := rfl
@[simp] theorem setVerdict_hdrLen (v : Verdict) (s : State) :
    (setVerdict v s).hdrLen = s.hdrLen := rfl
@[simp] theorem setVerdict_hdrCsum (v : Verdict) (s : State) :
    (setVerdict v s).hdrCsum = s.hdrCsum := rfl
@[simp] theorem setVerdict_acc (v : Verdict) (s : State) :
    (setVerdict v s).acc = s.acc := rfl
@[simp] theorem setVerdict_hbuf (v : Verdict) (s : State) :
    (setVerdict v s).hbuf = s.hbuf := rfl
@[simp] theorem setVerdict_hcnt (v : Verdict) (s : State) :
    (setVerdict v s).hcnt = s.hcnt := rfl
@[simp] theorem setVerdict_rptr (v : Verdict) (s : State) :
    (setVerdict v s).rptr = s.rptr := rfl
@[simp] theorem setVerdict_pcnt (v : Verdict) (s : State) :
    (setVerdict v s).pcnt = s.pcnt := rfl
@[simp] theorem setVerdict_mode (v : Verdict) (s : State) :
    (setVerdict v s).mode = s.mode := rfl
@[simp] theorem setVerdict_done (v : Verdict) (s : State) :
    (setVerdict v s).done = s.done := rfl
@[simp] theorem setVerdict_accept (v : Verdict) (s : State) :
    (setVerdict v s).accept = (v == .accept) := rfl
@[simp] theorem setVerdict_crcErr (v : Verdict) (s : State) :
    (setVerdict v s).crcErr = (v == .crcErr) := rfl
@[simp] theorem setVerdict_short (v : Verdict) (s : State) :
    (setVerdict v s).short = (v == .short) := rfl
@[simp] theorem setVerdict_lenerr (v : Verdict) (s : State) :
    (setVerdict v s).lenerr = (v == .lenerr) := rfl
@[simp] theorem setVerdict_extra (v : Verdict) (s : State) :
    (setVerdict v s).extra = s.extra := rfl
@[simp] theorem setVerdict_rxhdr (v : Verdict) (s : State) :
    (setVerdict v s).rxhdr = s.rxhdr := rfl
@[simp] theorem setVerdict_errCmd (v : Verdict) (s : State) :
    (setVerdict v s).errCmd = s.errCmd := rfl
@[simp] theorem setVerdict_errSeq (v : Verdict) (s : State) :
    (setVerdict v s).errSeq = s.errSeq := rfl
@[simp] theorem setVerdict_underrun (v : Verdict) (s : State) :
    (setVerdict v s).underrun = s.underrun := rfl
@[simp] theorem setVerdict_params (v : Verdict) (s : State) :
    (setVerdict v s).params = s.params := rfl
@[simp] theorem setVerdict_rdata (v : Verdict) (s : State) :
    (setVerdict v s).rdata = s.rdata := rfl
@[simp] theorem setVerdict_inbox (v : Verdict) (s : State) :
    (setVerdict v s).inbox = s.inbox := rfl

/-! `setHeader` -/

@[simp] theorem setHeader_hdrType (h : Header) (s : State) :
    (setHeader h s).hdrType = h.typ := rfl
@[simp] theorem setHeader_hdrSeq (h : Header) (s : State) :
    (setHeader h s).hdrSeq = h.seq := rfl
@[simp] theorem setHeader_hdrLen (h : Header) (s : State) :
    (setHeader h s).hdrLen = h.len := rfl
@[simp] theorem setHeader_hdrCsum (h : Header) (s : State) :
    (setHeader h s).hdrCsum = h.csum := rfl
@[simp] theorem setHeader_acc (h : Header) (s : State) :
    (setHeader h s).acc = s.acc := rfl
@[simp] theorem setHeader_hbuf (h : Header) (s : State) :
    (setHeader h s).hbuf = s.hbuf := rfl
@[simp] theorem setHeader_hcnt (h : Header) (s : State) :
    (setHeader h s).hcnt = s.hcnt := rfl
@[simp] theorem setHeader_rptr (h : Header) (s : State) :
    (setHeader h s).rptr = s.rptr := rfl
@[simp] theorem setHeader_pcnt (h : Header) (s : State) :
    (setHeader h s).pcnt = s.pcnt := rfl
@[simp] theorem setHeader_mode (h : Header) (s : State) :
    (setHeader h s).mode = s.mode := rfl
@[simp] theorem setHeader_done (h : Header) (s : State) :
    (setHeader h s).done = s.done := rfl
@[simp] theorem setHeader_accept (h : Header) (s : State) :
    (setHeader h s).accept = s.accept := rfl
@[simp] theorem setHeader_crcErr (h : Header) (s : State) :
    (setHeader h s).crcErr = s.crcErr := rfl
@[simp] theorem setHeader_short (h : Header) (s : State) :
    (setHeader h s).short = s.short := rfl
@[simp] theorem setHeader_lenerr (h : Header) (s : State) :
    (setHeader h s).lenerr = s.lenerr := rfl
@[simp] theorem setHeader_extra (h : Header) (s : State) :
    (setHeader h s).extra = s.extra := rfl
@[simp] theorem setHeader_rxhdr (h : Header) (s : State) :
    (setHeader h s).rxhdr = s.rxhdr := rfl
@[simp] theorem setHeader_errCmd (h : Header) (s : State) :
    (setHeader h s).errCmd = s.errCmd := rfl
@[simp] theorem setHeader_errSeq (h : Header) (s : State) :
    (setHeader h s).errSeq = s.errSeq := rfl
@[simp] theorem setHeader_underrun (h : Header) (s : State) :
    (setHeader h s).underrun = s.underrun := rfl
@[simp] theorem setHeader_params (h : Header) (s : State) :
    (setHeader h s).params = s.params := rfl
@[simp] theorem setHeader_rdata (h : Header) (s : State) :
    (setHeader h s).rdata = s.rdata := rfl
@[simp] theorem setHeader_inbox (h : Header) (s : State) :
    (setHeader h s).inbox = s.inbox := rfl

/-! `hostWrote` -/

@[simp] theorem hostWrote_hdrType (s : State) :
    (hostWrote s).hdrType = s.hdrType := rfl
@[simp] theorem hostWrote_hdrSeq (s : State) :
    (hostWrote s).hdrSeq = s.hdrSeq := rfl
@[simp] theorem hostWrote_hdrLen (s : State) :
    (hostWrote s).hdrLen = s.hdrLen := rfl
@[simp] theorem hostWrote_hdrCsum (s : State) :
    (hostWrote s).hdrCsum = s.hdrCsum := rfl
@[simp] theorem hostWrote_acc (s : State) :
    (hostWrote s).acc = s.acc := rfl
@[simp] theorem hostWrote_hbuf (s : State) :
    (hostWrote s).hbuf = s.hbuf := rfl
@[simp] theorem hostWrote_hcnt (s : State) :
    (hostWrote s).hcnt = s.hcnt := rfl
@[simp] theorem hostWrote_rptr (s : State) :
    (hostWrote s).rptr = s.rptr := rfl
@[simp] theorem hostWrote_pcnt (s : State) :
    (hostWrote s).pcnt = s.pcnt := rfl
@[simp] theorem hostWrote_mode (s : State) :
    (hostWrote s).mode = s.mode := rfl
@[simp] theorem hostWrote_done (s : State) :
    (hostWrote s).done = s.done := rfl
@[simp] theorem hostWrote_accept (s : State) :
    (hostWrote s).accept = s.accept := rfl
@[simp] theorem hostWrote_crcErr (s : State) :
    (hostWrote s).crcErr = s.crcErr := rfl
@[simp] theorem hostWrote_short (s : State) :
    (hostWrote s).short = s.short := rfl
@[simp] theorem hostWrote_lenerr (s : State) :
    (hostWrote s).lenerr = s.lenerr := rfl
@[simp] theorem hostWrote_extra (s : State) :
    (hostWrote s).extra = s.extra := rfl
@[simp] theorem hostWrote_rxhdr (s : State) :
    (hostWrote s).rxhdr = false := rfl
@[simp] theorem hostWrote_errCmd (s : State) :
    (hostWrote s).errCmd = s.errCmd := rfl
@[simp] theorem hostWrote_errSeq (s : State) :
    (hostWrote s).errSeq = s.errSeq := rfl
@[simp] theorem hostWrote_underrun (s : State) :
    (hostWrote s).underrun = s.underrun := rfl
@[simp] theorem hostWrote_params (s : State) :
    (hostWrote s).params = s.params := rfl
@[simp] theorem hostWrote_rdata (s : State) :
    (hostWrote s).rdata = s.rdata := rfl
@[simp] theorem hostWrote_inbox (s : State) :
    (hostWrote s).inbox = s.inbox := rfl

/-! `loadHbuf` -/

@[simp] theorem loadHbuf_hdrType (L : List Byte) (s : State) :
    (loadHbuf L s).hdrType = s.hdrType := rfl
@[simp] theorem loadHbuf_hdrSeq (L : List Byte) (s : State) :
    (loadHbuf L s).hdrSeq = s.hdrSeq := rfl
@[simp] theorem loadHbuf_hdrLen (L : List Byte) (s : State) :
    (loadHbuf L s).hdrLen = s.hdrLen := rfl
@[simp] theorem loadHbuf_hdrCsum (L : List Byte) (s : State) :
    (loadHbuf L s).hdrCsum = s.hdrCsum := rfl
@[simp] theorem loadHbuf_acc (L : List Byte) (s : State) :
    (loadHbuf L s).acc = s.acc := rfl
@[simp] theorem loadHbuf_hbuf (L : List Byte) (s : State) :
    (loadHbuf L s).hbuf = L := rfl
@[simp] theorem loadHbuf_hcnt (L : List Byte) (s : State) :
    (loadHbuf L s).hcnt = BitVec.ofNat 5 s.params.hdrSize := rfl
@[simp] theorem loadHbuf_rptr (L : List Byte) (s : State) :
    (loadHbuf L s).rptr = 0#5 := rfl
@[simp] theorem loadHbuf_pcnt (L : List Byte) (s : State) :
    (loadHbuf L s).pcnt = s.pcnt := rfl
@[simp] theorem loadHbuf_mode (L : List Byte) (s : State) :
    (loadHbuf L s).mode = s.mode := rfl
@[simp] theorem loadHbuf_done (L : List Byte) (s : State) :
    (loadHbuf L s).done = s.done := rfl
@[simp] theorem loadHbuf_accept (L : List Byte) (s : State) :
    (loadHbuf L s).accept = s.accept := rfl
@[simp] theorem loadHbuf_crcErr (L : List Byte) (s : State) :
    (loadHbuf L s).crcErr = s.crcErr := rfl
@[simp] theorem loadHbuf_short (L : List Byte) (s : State) :
    (loadHbuf L s).short = s.short := rfl
@[simp] theorem loadHbuf_lenerr (L : List Byte) (s : State) :
    (loadHbuf L s).lenerr = s.lenerr := rfl
@[simp] theorem loadHbuf_extra (L : List Byte) (s : State) :
    (loadHbuf L s).extra = s.extra := rfl
@[simp] theorem loadHbuf_rxhdr (L : List Byte) (s : State) :
    (loadHbuf L s).rxhdr = s.rxhdr := rfl
@[simp] theorem loadHbuf_errCmd (L : List Byte) (s : State) :
    (loadHbuf L s).errCmd = s.errCmd := rfl
@[simp] theorem loadHbuf_errSeq (L : List Byte) (s : State) :
    (loadHbuf L s).errSeq = s.errSeq := rfl
@[simp] theorem loadHbuf_underrun (L : List Byte) (s : State) :
    (loadHbuf L s).underrun = s.underrun := rfl
@[simp] theorem loadHbuf_params (L : List Byte) (s : State) :
    (loadHbuf L s).params = s.params := rfl
@[simp] theorem loadHbuf_rdata (L : List Byte) (s : State) :
    (loadHbuf L s).rdata = s.rdata := rfl
@[simp] theorem loadHbuf_inbox (L : List Byte) (s : State) :
    (loadHbuf L s).inbox = s.inbox := rfl

/-! `absorb` -/

@[simp] theorem absorb_hdrType (b : Byte) (s : State) :
    (absorb b s).hdrType = s.hdrType := rfl
@[simp] theorem absorb_hdrSeq (b : Byte) (s : State) :
    (absorb b s).hdrSeq = s.hdrSeq := rfl
@[simp] theorem absorb_hdrLen (b : Byte) (s : State) :
    (absorb b s).hdrLen = s.hdrLen := rfl
@[simp] theorem absorb_hdrCsum (b : Byte) (s : State) :
    (absorb b s).hdrCsum = s.hdrCsum := rfl
@[simp] theorem absorb_acc (b : Byte) (s : State) :
    (absorb b s).acc = crcUpdate s.acc b := rfl
@[simp] theorem absorb_hbuf (b : Byte) (s : State) :
    (absorb b s).hbuf = s.hbuf := rfl
@[simp] theorem absorb_hcnt (b : Byte) (s : State) :
    (absorb b s).hcnt = s.hcnt := rfl
@[simp] theorem absorb_rptr (b : Byte) (s : State) :
    (absorb b s).rptr = s.rptr := rfl
@[simp] theorem absorb_pcnt (b : Byte) (s : State) :
    (absorb b s).pcnt = s.pcnt := rfl
@[simp] theorem absorb_mode (b : Byte) (s : State) :
    (absorb b s).mode = s.mode := rfl
@[simp] theorem absorb_done (b : Byte) (s : State) :
    (absorb b s).done = s.done := rfl
@[simp] theorem absorb_accept (b : Byte) (s : State) :
    (absorb b s).accept = s.accept := rfl
@[simp] theorem absorb_crcErr (b : Byte) (s : State) :
    (absorb b s).crcErr = s.crcErr := rfl
@[simp] theorem absorb_short (b : Byte) (s : State) :
    (absorb b s).short = s.short := rfl
@[simp] theorem absorb_lenerr (b : Byte) (s : State) :
    (absorb b s).lenerr = s.lenerr := rfl
@[simp] theorem absorb_extra (b : Byte) (s : State) :
    (absorb b s).extra = s.extra := rfl
@[simp] theorem absorb_rxhdr (b : Byte) (s : State) :
    (absorb b s).rxhdr = s.rxhdr := rfl
@[simp] theorem absorb_errCmd (b : Byte) (s : State) :
    (absorb b s).errCmd = s.errCmd := rfl
@[simp] theorem absorb_errSeq (b : Byte) (s : State) :
    (absorb b s).errSeq = s.errSeq := rfl
@[simp] theorem absorb_underrun (b : Byte) (s : State) :
    (absorb b s).underrun = s.underrun := rfl
@[simp] theorem absorb_params (b : Byte) (s : State) :
    (absorb b s).params = s.params := rfl
@[simp] theorem absorb_rdata (b : Byte) (s : State) :
    (absorb b s).rdata = s.rdata := rfl
@[simp] theorem absorb_inbox (b : Byte) (s : State) :
    (absorb b s).inbox = s.inbox := rfl

/-! `countByte` -/

@[simp] theorem countByte_hdrType (s : State) :
    (countByte s).hdrType = s.hdrType := rfl
@[simp] theorem countByte_hdrSeq (s : State) :
    (countByte s).hdrSeq = s.hdrSeq := rfl
@[simp] theorem countByte_hdrLen (s : State) :
    (countByte s).hdrLen = s.hdrLen := rfl
@[simp] theorem countByte_hdrCsum (s : State) :
    (countByte s).hdrCsum = s.hdrCsum := rfl
@[simp] theorem countByte_acc (s : State) :
    (countByte s).acc = s.acc := rfl
@[simp] theorem countByte_hbuf (s : State) :
    (countByte s).hbuf = s.hbuf := rfl
@[simp] theorem countByte_hcnt (s : State) :
    (countByte s).hcnt = s.hcnt := rfl
@[simp] theorem countByte_rptr (s : State) :
    (countByte s).rptr = s.rptr := rfl
@[simp] theorem countByte_pcnt (s : State) :
    (countByte s).pcnt = satInc s.pcnt := rfl
@[simp] theorem countByte_mode (s : State) :
    (countByte s).mode = s.mode := rfl
@[simp] theorem countByte_done (s : State) :
    (countByte s).done = s.done := rfl
@[simp] theorem countByte_accept (s : State) :
    (countByte s).accept = s.accept := rfl
@[simp] theorem countByte_crcErr (s : State) :
    (countByte s).crcErr = s.crcErr := rfl
@[simp] theorem countByte_short (s : State) :
    (countByte s).short = s.short := rfl
@[simp] theorem countByte_lenerr (s : State) :
    (countByte s).lenerr = s.lenerr := rfl
@[simp] theorem countByte_extra (s : State) :
    (countByte s).extra = s.extra := rfl
@[simp] theorem countByte_rxhdr (s : State) :
    (countByte s).rxhdr = s.rxhdr := rfl
@[simp] theorem countByte_errCmd (s : State) :
    (countByte s).errCmd = s.errCmd := rfl
@[simp] theorem countByte_errSeq (s : State) :
    (countByte s).errSeq = s.errSeq := rfl
@[simp] theorem countByte_underrun (s : State) :
    (countByte s).underrun = s.underrun := rfl
@[simp] theorem countByte_params (s : State) :
    (countByte s).params = s.params := rfl
@[simp] theorem countByte_rdata (s : State) :
    (countByte s).rdata = s.rdata := rfl
@[simp] theorem countByte_inbox (s : State) :
    (countByte s).inbox = s.inbox := rfl

/-! `openHeaderFlow` -/

@[simp] theorem openHeaderFlow_hdrType (a : Word) (m : Mode) (s : State) :
    (openHeaderFlow a m s).hdrType = s.hdrType := rfl
@[simp] theorem openHeaderFlow_hdrSeq (a : Word) (m : Mode) (s : State) :
    (openHeaderFlow a m s).hdrSeq = s.hdrSeq := rfl
@[simp] theorem openHeaderFlow_hdrLen (a : Word) (m : Mode) (s : State) :
    (openHeaderFlow a m s).hdrLen = s.hdrLen := rfl
@[simp] theorem openHeaderFlow_hdrCsum (a : Word) (m : Mode) (s : State) :
    (openHeaderFlow a m s).hdrCsum = s.hdrCsum := rfl
@[simp] theorem openHeaderFlow_acc (a : Word) (m : Mode) (s : State) :
    (openHeaderFlow a m s).acc = a := rfl
@[simp] theorem openHeaderFlow_hbuf (a : Word) (m : Mode) (s : State) :
    (openHeaderFlow a m s).hbuf = s.hbuf := rfl
@[simp] theorem openHeaderFlow_hcnt (a : Word) (m : Mode) (s : State) :
    (openHeaderFlow a m s).hcnt = 0#5 := rfl
@[simp] theorem openHeaderFlow_rptr (a : Word) (m : Mode) (s : State) :
    (openHeaderFlow a m s).rptr = 0#5 := rfl
@[simp] theorem openHeaderFlow_pcnt (a : Word) (m : Mode) (s : State) :
    (openHeaderFlow a m s).pcnt = 0#32 := rfl
@[simp] theorem openHeaderFlow_mode (a : Word) (m : Mode) (s : State) :
    (openHeaderFlow a m s).mode = m := rfl
@[simp] theorem openHeaderFlow_done (a : Word) (m : Mode) (s : State) :
    (openHeaderFlow a m s).done = false := rfl
@[simp] theorem openHeaderFlow_accept (a : Word) (m : Mode) (s : State) :
    (openHeaderFlow a m s).accept = false := rfl
@[simp] theorem openHeaderFlow_crcErr (a : Word) (m : Mode) (s : State) :
    (openHeaderFlow a m s).crcErr = false := rfl
@[simp] theorem openHeaderFlow_short (a : Word) (m : Mode) (s : State) :
    (openHeaderFlow a m s).short = false := rfl
@[simp] theorem openHeaderFlow_lenerr (a : Word) (m : Mode) (s : State) :
    (openHeaderFlow a m s).lenerr = false := rfl
@[simp] theorem openHeaderFlow_extra (a : Word) (m : Mode) (s : State) :
    (openHeaderFlow a m s).extra = false := rfl
@[simp] theorem openHeaderFlow_rxhdr (a : Word) (m : Mode) (s : State) :
    (openHeaderFlow a m s).rxhdr = false := rfl
@[simp] theorem openHeaderFlow_errCmd (a : Word) (m : Mode) (s : State) :
    (openHeaderFlow a m s).errCmd = s.errCmd := rfl
@[simp] theorem openHeaderFlow_errSeq (a : Word) (m : Mode) (s : State) :
    (openHeaderFlow a m s).errSeq = s.errSeq := rfl
@[simp] theorem openHeaderFlow_underrun (a : Word) (m : Mode) (s : State) :
    (openHeaderFlow a m s).underrun = s.underrun := rfl
@[simp] theorem openHeaderFlow_params (a : Word) (m : Mode) (s : State) :
    (openHeaderFlow a m s).params = s.params := rfl
@[simp] theorem openHeaderFlow_rdata (a : Word) (m : Mode) (s : State) :
    (openHeaderFlow a m s).rdata = s.rdata := rfl
@[simp] theorem openHeaderFlow_inbox (a : Word) (m : Mode) (s : State) :
    (openHeaderFlow a m s).inbox = s.inbox := rfl

/-! `closeFlow` -/

@[simp] theorem closeFlow_hdrType (s : State) :
    (closeFlow s).hdrType = s.hdrType := rfl
@[simp] theorem closeFlow_hdrSeq (s : State) :
    (closeFlow s).hdrSeq = s.hdrSeq := rfl
@[simp] theorem closeFlow_hdrLen (s : State) :
    (closeFlow s).hdrLen = s.hdrLen := rfl
@[simp] theorem closeFlow_hdrCsum (s : State) :
    (closeFlow s).hdrCsum = s.hdrCsum := rfl
@[simp] theorem closeFlow_acc (s : State) :
    (closeFlow s).acc = s.acc := rfl
@[simp] theorem closeFlow_hbuf (s : State) :
    (closeFlow s).hbuf = s.hbuf := rfl
@[simp] theorem closeFlow_hcnt (s : State) :
    (closeFlow s).hcnt = s.hcnt := rfl
@[simp] theorem closeFlow_rptr (s : State) :
    (closeFlow s).rptr = s.rptr := rfl
@[simp] theorem closeFlow_pcnt (s : State) :
    (closeFlow s).pcnt = s.pcnt := rfl
@[simp] theorem closeFlow_mode (s : State) :
    (closeFlow s).mode = .idle := rfl
@[simp] theorem closeFlow_done (s : State) :
    (closeFlow s).done = true := rfl
@[simp] theorem closeFlow_accept (s : State) :
    (closeFlow s).accept = s.accept := rfl
@[simp] theorem closeFlow_crcErr (s : State) :
    (closeFlow s).crcErr = s.crcErr := rfl
@[simp] theorem closeFlow_short (s : State) :
    (closeFlow s).short = s.short := rfl
@[simp] theorem closeFlow_lenerr (s : State) :
    (closeFlow s).lenerr = s.lenerr := rfl
@[simp] theorem closeFlow_extra (s : State) :
    (closeFlow s).extra = s.extra := rfl
@[simp] theorem closeFlow_rxhdr (s : State) :
    (closeFlow s).rxhdr = s.rxhdr := rfl
@[simp] theorem closeFlow_errCmd (s : State) :
    (closeFlow s).errCmd = s.errCmd := rfl
@[simp] theorem closeFlow_errSeq (s : State) :
    (closeFlow s).errSeq = s.errSeq := rfl
@[simp] theorem closeFlow_underrun (s : State) :
    (closeFlow s).underrun = s.underrun := rfl
@[simp] theorem closeFlow_params (s : State) :
    (closeFlow s).params = s.params := rfl
@[simp] theorem closeFlow_rdata (s : State) :
    (closeFlow s).rdata = s.rdata := rfl
@[simp] theorem closeFlow_inbox (s : State) :
    (closeFlow s).inbox = s.inbox := rfl

/-! `resetBlock` -/

@[simp] theorem resetBlock_hdrType (s : State) :
    (resetBlock s).hdrType = 0#32 := rfl
@[simp] theorem resetBlock_hdrSeq (s : State) :
    (resetBlock s).hdrSeq = 0#32 := rfl
@[simp] theorem resetBlock_hdrLen (s : State) :
    (resetBlock s).hdrLen = 0#32 := rfl
@[simp] theorem resetBlock_hdrCsum (s : State) :
    (resetBlock s).hdrCsum = 0#32 := rfl
@[simp] theorem resetBlock_acc (s : State) :
    (resetBlock s).acc = 0xFFFFFFFF#32 := rfl
@[simp] theorem resetBlock_hbuf (s : State) :
    (resetBlock s).hbuf = List.replicate s.params.hdrSize 0#8 := rfl
@[simp] theorem resetBlock_hcnt (s : State) :
    (resetBlock s).hcnt = 0#5 := rfl
@[simp] theorem resetBlock_rptr (s : State) :
    (resetBlock s).rptr = 0#5 := rfl
@[simp] theorem resetBlock_pcnt (s : State) :
    (resetBlock s).pcnt = 0#32 := rfl
@[simp] theorem resetBlock_mode (s : State) :
    (resetBlock s).mode = .idle := rfl
@[simp] theorem resetBlock_done (s : State) :
    (resetBlock s).done = false := rfl
@[simp] theorem resetBlock_accept (s : State) :
    (resetBlock s).accept = false := rfl
@[simp] theorem resetBlock_crcErr (s : State) :
    (resetBlock s).crcErr = false := rfl
@[simp] theorem resetBlock_short (s : State) :
    (resetBlock s).short = false := rfl
@[simp] theorem resetBlock_lenerr (s : State) :
    (resetBlock s).lenerr = false := rfl
@[simp] theorem resetBlock_extra (s : State) :
    (resetBlock s).extra = false := rfl
@[simp] theorem resetBlock_rxhdr (s : State) :
    (resetBlock s).rxhdr = false := rfl
@[simp] theorem resetBlock_errCmd (s : State) :
    (resetBlock s).errCmd = false := rfl
@[simp] theorem resetBlock_errSeq (s : State) :
    (resetBlock s).errSeq = false := rfl
@[simp] theorem resetBlock_underrun (s : State) :
    (resetBlock s).underrun = false := rfl
@[simp] theorem resetBlock_params (s : State) :
    (resetBlock s).params = s.params := rfl
@[simp] theorem resetBlock_rdata (s : State) :
    (resetBlock s).rdata = 0#32 := rfl
@[simp] theorem resetBlock_inbox (s : State) :
    (resetBlock s).inbox = s.inbox := rfl

/-! `raiseMisuse`: one sticky flag, everything else as it was (R306). -/

@[simp] theorem raiseMisuse_hdrType (m : Misuse) (s : State) :
    (raiseMisuse m s).hdrType = s.hdrType := by cases m <;> rfl
@[simp] theorem raiseMisuse_hdrSeq (m : Misuse) (s : State) :
    (raiseMisuse m s).hdrSeq = s.hdrSeq := by cases m <;> rfl
@[simp] theorem raiseMisuse_hdrLen (m : Misuse) (s : State) :
    (raiseMisuse m s).hdrLen = s.hdrLen := by cases m <;> rfl
@[simp] theorem raiseMisuse_hdrCsum (m : Misuse) (s : State) :
    (raiseMisuse m s).hdrCsum = s.hdrCsum := by cases m <;> rfl
@[simp] theorem raiseMisuse_acc (m : Misuse) (s : State) :
    (raiseMisuse m s).acc = s.acc := by cases m <;> rfl
@[simp] theorem raiseMisuse_hbuf (m : Misuse) (s : State) :
    (raiseMisuse m s).hbuf = s.hbuf := by cases m <;> rfl
@[simp] theorem raiseMisuse_hcnt (m : Misuse) (s : State) :
    (raiseMisuse m s).hcnt = s.hcnt := by cases m <;> rfl
@[simp] theorem raiseMisuse_rptr (m : Misuse) (s : State) :
    (raiseMisuse m s).rptr = s.rptr := by cases m <;> rfl
@[simp] theorem raiseMisuse_pcnt (m : Misuse) (s : State) :
    (raiseMisuse m s).pcnt = s.pcnt := by cases m <;> rfl
@[simp] theorem raiseMisuse_mode (m : Misuse) (s : State) :
    (raiseMisuse m s).mode = s.mode := by cases m <;> rfl
@[simp] theorem raiseMisuse_done (m : Misuse) (s : State) :
    (raiseMisuse m s).done = s.done := by cases m <;> rfl
@[simp] theorem raiseMisuse_accept (m : Misuse) (s : State) :
    (raiseMisuse m s).accept = s.accept := by cases m <;> rfl
@[simp] theorem raiseMisuse_crcErr (m : Misuse) (s : State) :
    (raiseMisuse m s).crcErr = s.crcErr := by cases m <;> rfl
@[simp] theorem raiseMisuse_short (m : Misuse) (s : State) :
    (raiseMisuse m s).short = s.short := by cases m <;> rfl
@[simp] theorem raiseMisuse_lenerr (m : Misuse) (s : State) :
    (raiseMisuse m s).lenerr = s.lenerr := by cases m <;> rfl
@[simp] theorem raiseMisuse_extra (m : Misuse) (s : State) :
    (raiseMisuse m s).extra = s.extra := by cases m <;> rfl
@[simp] theorem raiseMisuse_rxhdr (m : Misuse) (s : State) :
    (raiseMisuse m s).rxhdr = s.rxhdr := by cases m <;> rfl
@[simp] theorem raiseMisuse_errCmd (m : Misuse) (s : State) :
    (raiseMisuse m s).errCmd = (m == .cmd || s.errCmd) := by cases m <;> rfl
@[simp] theorem raiseMisuse_errSeq (m : Misuse) (s : State) :
    (raiseMisuse m s).errSeq = (m == .seq || s.errSeq) := by cases m <;> rfl
@[simp] theorem raiseMisuse_underrun (m : Misuse) (s : State) :
    (raiseMisuse m s).underrun = (m == .underrun || s.underrun) := by cases m <;> rfl
@[simp] theorem raiseMisuse_params (m : Misuse) (s : State) :
    (raiseMisuse m s).params = s.params := by cases m <;> rfl
@[simp] theorem raiseMisuse_rdata (m : Misuse) (s : State) :
    (raiseMisuse m s).rdata = s.rdata := by cases m <;> rfl
@[simp] theorem raiseMisuse_inbox (m : Misuse) (s : State) :
    (raiseMisuse m s).inbox = s.inbox := by cases m <;> rfl

/-! `State.present`: the port input only. -/

@[simp] theorem present_hdrType (x : PortInput) (s : State) :
    (s.present x).hdrType = s.hdrType := rfl
@[simp] theorem present_hdrSeq (x : PortInput) (s : State) :
    (s.present x).hdrSeq = s.hdrSeq := rfl
@[simp] theorem present_hdrLen (x : PortInput) (s : State) :
    (s.present x).hdrLen = s.hdrLen := rfl
@[simp] theorem present_hdrCsum (x : PortInput) (s : State) :
    (s.present x).hdrCsum = s.hdrCsum := rfl
@[simp] theorem present_acc (x : PortInput) (s : State) :
    (s.present x).acc = s.acc := rfl
@[simp] theorem present_hbuf (x : PortInput) (s : State) :
    (s.present x).hbuf = s.hbuf := rfl
@[simp] theorem present_hcnt (x : PortInput) (s : State) :
    (s.present x).hcnt = s.hcnt := rfl
@[simp] theorem present_rptr (x : PortInput) (s : State) :
    (s.present x).rptr = s.rptr := rfl
@[simp] theorem present_pcnt (x : PortInput) (s : State) :
    (s.present x).pcnt = s.pcnt := rfl
@[simp] theorem present_mode (x : PortInput) (s : State) :
    (s.present x).mode = s.mode := rfl
@[simp] theorem present_done (x : PortInput) (s : State) :
    (s.present x).done = s.done := rfl
@[simp] theorem present_accept (x : PortInput) (s : State) :
    (s.present x).accept = s.accept := rfl
@[simp] theorem present_crcErr (x : PortInput) (s : State) :
    (s.present x).crcErr = s.crcErr := rfl
@[simp] theorem present_short (x : PortInput) (s : State) :
    (s.present x).short = s.short := rfl
@[simp] theorem present_lenerr (x : PortInput) (s : State) :
    (s.present x).lenerr = s.lenerr := rfl
@[simp] theorem present_extra (x : PortInput) (s : State) :
    (s.present x).extra = s.extra := rfl
@[simp] theorem present_rxhdr (x : PortInput) (s : State) :
    (s.present x).rxhdr = s.rxhdr := rfl
@[simp] theorem present_errCmd (x : PortInput) (s : State) :
    (s.present x).errCmd = s.errCmd := rfl
@[simp] theorem present_errSeq (x : PortInput) (s : State) :
    (s.present x).errSeq = s.errSeq := rfl
@[simp] theorem present_underrun (x : PortInput) (s : State) :
    (s.present x).underrun = s.underrun := rfl
@[simp] theorem present_params (x : PortInput) (s : State) :
    (s.present x).params = s.params := rfl
@[simp] theorem present_rdata (x : PortInput) (s : State) :
    (s.present x).rdata = s.rdata := rfl
@[simp] theorem present_inbox (x : PortInput) (s : State) :
    (s.present x).inbox = x :: s.inbox := rfl

/-! The reset state of a build. -/

@[simp] theorem resetWith_hdrType (p : Params) : (State.resetWith p).hdrType = 0#32 := rfl
@[simp] theorem resetWith_hdrSeq (p : Params) : (State.resetWith p).hdrSeq = 0#32 := rfl
@[simp] theorem resetWith_hdrLen (p : Params) : (State.resetWith p).hdrLen = 0#32 := rfl
@[simp] theorem resetWith_hdrCsum (p : Params) : (State.resetWith p).hdrCsum = 0#32 := rfl
@[simp] theorem resetWith_acc (p : Params) : (State.resetWith p).acc = 0xFFFFFFFF#32 := rfl
@[simp] theorem resetWith_hbuf (p : Params) : (State.resetWith p).hbuf = List.replicate p.hdrSize 0#8 := rfl
@[simp] theorem resetWith_hcnt (p : Params) : (State.resetWith p).hcnt = 0#5 := rfl
@[simp] theorem resetWith_rptr (p : Params) : (State.resetWith p).rptr = 0#5 := rfl
@[simp] theorem resetWith_pcnt (p : Params) : (State.resetWith p).pcnt = 0#32 := rfl
@[simp] theorem resetWith_mode (p : Params) : (State.resetWith p).mode = .idle := rfl
@[simp] theorem resetWith_done (p : Params) : (State.resetWith p).done = false := rfl
@[simp] theorem resetWith_accept (p : Params) : (State.resetWith p).accept = false := rfl
@[simp] theorem resetWith_crcErr (p : Params) : (State.resetWith p).crcErr = false := rfl
@[simp] theorem resetWith_short (p : Params) : (State.resetWith p).short = false := rfl
@[simp] theorem resetWith_lenerr (p : Params) : (State.resetWith p).lenerr = false := rfl
@[simp] theorem resetWith_extra (p : Params) : (State.resetWith p).extra = false := rfl
@[simp] theorem resetWith_rxhdr (p : Params) : (State.resetWith p).rxhdr = false := rfl
@[simp] theorem resetWith_errCmd (p : Params) : (State.resetWith p).errCmd = false := rfl
@[simp] theorem resetWith_errSeq (p : Params) : (State.resetWith p).errSeq = false := rfl
@[simp] theorem resetWith_underrun (p : Params) : (State.resetWith p).underrun = false := rfl
@[simp] theorem resetWith_params (p : Params) : (State.resetWith p).params = p := rfl
@[simp] theorem resetWith_rdata (p : Params) : (State.resetWith p).rdata = 0#32 := rfl
@[simp] theorem resetWith_inbox (p : Params) : (State.resetWith p).inbox = [] := rfl

end Sys2Proof.Machine
end

