-- ==== Sys2Proof/Laws/Ops.lean ====
section
/-! SUPPORT. What each shared operation answers, said once: how a transaction completes, what a locked
header refuses, what a push does in each mode, what the port carries, and how a sequence runs. -/

namespace Sys2Proof.Machine

/-! ## Completing -/

@[simp] theorem finishWrite_eq_next {s t : State} :
    finishWrite s = .next t ↔ t = { s with rdata := 0#32 } := by
  simp [finishWrite, eq_comm]

@[simp] theorem finishRead_eq_next {v : Word} {s t : State} :
    finishRead v s = .next t ↔ t = { s with rdata := v } := by
  simp [finishRead, eq_comm]

/-! ## Counting -/

/-- `sat_inc`, by its one special value (R15). -/
theorem satInc_eq (v : Word) :
    satInc v = if v = 0xFFFFFFFF#32 then 0xFFFFFFFF#32 else v + 1#32 := by
  unfold satInc
  by_cases h : v = 0xFFFFFFFF#32
  · simp [h]
  · have h' : v.toNat ≠ 0xFFFFFFFF := fun e => h (BitVec.eq_of_toNat_eq (by simpa using e))
    have := v.isLt
    rw [if_pos (by simp [BitVec.lt_def]; omega), if_neg h]

/-- `sat_inc` as a number. -/
theorem toNat_satInc (v : Word) : (satInc v).toNat = min (v.toNat + 1) 0xFFFFFFFF := by
  rw [satInc_eq]
  have := v.isLt
  split
  · simp_all
  · next h =>
    have h' : v.toNat ≠ 0xFFFFFFFF := fun e => h (BitVec.eq_of_toNat_eq (by simpa using e))
    simp only [BitVec.toNat_add, BitVec.toNat_ofNat]
    omega

/-! ## The header lock -/

theorem unlessLocked_unlocked {s : State} (h : headerLocked s.mode = false) (a : State) :
    unlessLocked a s = finishWrite a := by simp [unlessLocked, h]

theorem unlessLocked_locked {s : State} (h : headerLocked s.mode = true) (a : State) :
    unlessLocked a s = finishWrite { s with errSeq := true } := by
  simp [unlessLocked, h, raiseMisuse]

/-! ## A push, by mode -/

theorem pushByte_idle {s : State} (h : s.mode = .idle) (b : Byte) :
    pushByte b s = finishWrite { s with errSeq := true } := by
  simp [pushByte, h, pushInIdle, raiseMisuse]

theorem pushByte_raw {s : State} (h : s.mode = .raw) (b : Byte) :
    pushByte b s = finishWrite { s with acc := crcUpdate s.acc b, pcnt := satInc s.pcnt } := by
  simp [pushByte, h, pushInRaw, absorb, countByte]

/-- Before the last header byte (R182). -/
theorem pushByte_rxh {s : State} (h : s.mode = .rxh) (hn : s.hcnt.toNat + 1 ≠ s.params.hdrSize)
    (b : Byte) : pushByte b s = finishWrite { s with
      hbuf := s.hbuf.set s.hcnt.toNat b,
      acc := crcUpdate s.acc (coveredHeaderByte s.params s.hcnt.toNat b), hcnt := s.hcnt + 1#5 } := by
  simp [pushByte, h, pushInRxh, hn, storeHeaderByte, absorb]

/-- The last header byte (R182). -/
theorem pushByte_rxh_last {s : State} (h : s.mode = .rxh)
    (hn : s.hcnt.toNat + 1 = s.params.hdrSize) (b : Byte) :
    pushByte b s = finishWrite { setHeader
        (headerFields s.params (s.hbuf.set s.hcnt.toNat b)) s with
      hbuf := s.hbuf.set s.hcnt.toNat b,
      acc := crcUpdate s.acc (coveredHeaderByte s.params s.hcnt.toNat b), hcnt := s.hcnt + 1#5,
      rxhdr := true, mode := .rxp } := by
  simp [pushByte, h, pushInRxh, hn, headerComplete, storeHeaderByte, absorb, setHeader]

/-- A payload byte inside the covered span (R183, R202). -/
theorem pushByte_covered {s : State} (h : s.mode = .rxp ∨ s.mode = .txp)
    (hc : payloadMissing s = true) (b : Byte) :
    pushByte b s = finishWrite { s with acc := crcUpdate s.acc b, pcnt := satInc s.pcnt } := by
  rcases h with h | h <;>
    simp [pushByte, h, pushInRxp, pushInTxp, payloadByte, hc, absorb, countByte]

/-- A payload byte outside it (R183, R202). -/
theorem pushByte_extra {s : State} (h : s.mode = .rxp ∨ s.mode = .txp)
    (hc : payloadMissing s = false) (b : Byte) :
    pushByte b s = finishWrite { s with extra := true, pcnt := satInc s.pcnt } := by
  rcases h with h | h <;>
    simp [pushByte, h, pushInRxp, pushInTxp, payloadByte, hc, countByte]

/-! ## The port and sequences -/

theorem step_nil {s : State} (h : s.inbox = []) : step s = .next s := by
  simp [step, takeInput, h, stepInput]

theorem step_cons {s : State} {x : PortInput} {rest : List PortInput} (h : s.inbox = x :: rest) :
    step s = stepInput x { s with inbox := rest } := by
  simp [step, takeInput, h]

/-- An input that is presented is the one the next step takes. -/
@[simp] theorem step_present (x : PortInput) (s : State) : step (s.present x) = stepInput x s := by
  simp [step, takeInput, State.present]

@[simp] theorem stepInput_presentTxn (T : TxnWord) (s : State) :
    stepInput (presentTxn T) s = stepWord T s := rfl

theorem runTxns_nil (s : State) : runTxns [] s = .next (s, []) := rfl

/-- The first transaction of a sequence, then the rest. -/
theorem runTxns_cons {T : TxnWord} {Ts : List TxnWord} {s t u : State} {reads : List Word}
    (h : stepWord T s = .next t) (h' : runTxns Ts t = .next (u, reads)) :
    runTxns (T :: Ts) s = .next (u, t.rdata :: reads) := by
  simp [runTxns, h, h']

/-! ## Words to transactions -/

/-- A transaction word acts as the instruction it encodes. -/
theorem stepWord_eq (T : TxnWord) (s : State) : stepWord T s = exec (decode s.mode T) s := rfl

theorem stepWord_write (a : RegIndex) (w : Word) (s : State) :
    stepWord (writeTxn a w) s = exec (decodeWrite s.mode a w) s := by
  simp [stepWord, decode, writeTxn]

theorem stepWord_read (a : RegIndex) (s : State) :
    stepWord (readTxn a) s = exec (decodeRead a 0#32) s := by
  simp [stepWord, decode, readTxn]

theorem stepWord_cmd (op : Byte) (s : State) :
    stepWord (cmdTxn op) s = exec (decodeCommand (highBits (zextByte op)) op) s := by
  simp [cmdTxn, stepWord_write, decodeWrite]

/-- A `DIN` write is a push of its byte in every mode. -/
theorem stepWord_push (b : Byte) (s : State) : stepWord (pushTxn b) s = pushByte b s := by
  rw [pushTxn, stepWord_write]
  cases h : s.mode <;>
    simp [decodeWrite, decodePush, exec, execPushIdle, execPushRaw, execPushRxh, execPushRxp,
      execPushTxp]

end Sys2Proof.Machine
end

