-- ==== Sys2Proof/Laws/PerInstr.lean ====
section
/-! SUPPORT. A family of claims made per instruction: the fields of each encoding. -/

namespace Sys2Proof.Laws.Fields

/-- Whether an instruction is a write: bit 38 of its words (spec/30_encoding.md R92, R102). -/
def isWrite : Instr → Bool
  | .wrHdrType _ => true
  | .wrHdrSeq _ => true
  | .wrHdrLen _ => true
  | .wrHdrCsum _ => true
  | .nop _ => true
  | .crcStart _ => true
  | .enc _ => true
  | .enc0 _ => true
  | .rxBegin _ => true
  | .rxEnd _ => true
  | .txBegin _ => true
  | .txEnd _ => true
  | .clr _ => true
  | .cmdRsvd _ _ => true
  | .wrStatus _ => true
  | .pushIdle _ _ => true
  | .pushRaw _ _ => true
  | .pushRxh _ _ => true
  | .pushRxp _ _ => true
  | .pushTxp _ _ => true
  | .wrDout _ => true
  | .wrCrcOut _ => true
  | .wrCrcAcc _ => true
  | .wrHcnt _ => true
  | .wrPcnt _ => true
  | .wrConfig _ => true
  | .wrRsvd _ _ => true
  | .rdHdrType _ => false
  | .rdHdrSeq _ => false
  | .rdHdrLen _ => false
  | .rdHdrCsum _ => false
  | .rdCmd _ => false
  | .rdStatus _ => false
  | .rdDin _ => false
  | .pop _ => false
  | .rdCrcOut _ => false
  | .rdCrcAcc _ => false
  | .rdHcnt _ => false
  | .rdPcnt _ => false
  | .rdConfig _ => false
  | .rdRsvd _ _ => false

/-- The register index of an instruction: bits 37:32 of its words (R92, R102). -/
def index : Instr → RegIndex
  | .wrHdrType _ => 0
  | .wrHdrSeq _ => 1
  | .wrHdrLen _ => 2
  | .wrHdrCsum _ => 3
  | .nop _ => 4
  | .crcStart _ => 4
  | .enc _ => 4
  | .enc0 _ => 4
  | .rxBegin _ => 4
  | .rxEnd _ => 4
  | .txBegin _ => 4
  | .txEnd _ => 4
  | .clr _ => 4
  | .cmdRsvd _ _ => 4
  | .wrStatus _ => 5
  | .pushIdle _ _ => 6
  | .pushRaw _ _ => 6
  | .pushRxh _ _ => 6
  | .pushRxp _ _ => 6
  | .pushTxp _ _ => 6
  | .wrDout _ => 7
  | .wrCrcOut _ => 8
  | .wrCrcAcc _ => 9
  | .wrHcnt _ => 10
  | .wrPcnt _ => 11
  | .wrConfig _ => 12
  | .wrRsvd a _ => a
  | .rdHdrType _ => 0
  | .rdHdrSeq _ => 1
  | .rdHdrLen _ => 2
  | .rdHdrCsum _ => 3
  | .rdCmd _ => 4
  | .rdStatus _ => 5
  | .rdDin _ => 6
  | .pop _ => 7
  | .rdCrcOut _ => 8
  | .rdCrcAcc _ => 9
  | .rdHcnt _ => 10
  | .rdPcnt _ => 11
  | .rdConfig _ => 12
  | .rdRsvd a _ => a

/-- The encoding of an instruction is a write or a read as its row says, names the register its row names,
and has nothing else but the data word, which it keeps whole. -/
def Statement (i : Instr) : Prop :=
  weField (encode i) = isWrite i ∧ indexField (encode i) = index i ∧
    encode i = packWord (isWrite i) (index i) (wdataField (encode i))

/-- What all the lemmas of this family rest on. -/
theorem of_packed {i : Instr} {we : Bool} {a : RegIndex} {w : Word}
    (h : encode i = packWord we a w) (hw : isWrite i = we) (ha : index i = a) : Statement i := by
  simp [Statement, h, hw, ha]

theorem wrHdrType (wdata : Word) : Statement (.wrHdrType wdata) := of_packed rfl rfl rfl
theorem wrHdrSeq (wdata : Word) : Statement (.wrHdrSeq wdata) := of_packed rfl rfl rfl
theorem wrHdrLen (wdata : Word) : Statement (.wrHdrLen wdata) := of_packed rfl rfl rfl
theorem wrHdrCsum (wdata : Word) : Statement (.wrHdrCsum wdata) := of_packed rfl rfl rfl
theorem nop (hi : BitVec 24) : Statement (.nop hi) := of_packed rfl rfl rfl
theorem crcStart (hi : BitVec 24) : Statement (.crcStart hi) := of_packed rfl rfl rfl
theorem enc (hi : BitVec 24) : Statement (.enc hi) := of_packed rfl rfl rfl
theorem enc0 (hi : BitVec 24) : Statement (.enc0 hi) := of_packed rfl rfl rfl
theorem rxBegin (hi : BitVec 24) : Statement (.rxBegin hi) := of_packed rfl rfl rfl
theorem rxEnd (hi : BitVec 24) : Statement (.rxEnd hi) := of_packed rfl rfl rfl
theorem txBegin (hi : BitVec 24) : Statement (.txBegin hi) := of_packed rfl rfl rfl
theorem txEnd (hi : BitVec 24) : Statement (.txEnd hi) := of_packed rfl rfl rfl
theorem clr (hi : BitVec 24) : Statement (.clr hi) := of_packed rfl rfl rfl
theorem cmdRsvd (hi : BitVec 24) (op : Byte) : Statement (.cmdRsvd hi op) := of_packed rfl rfl rfl
theorem wrStatus (wdata : Word) : Statement (.wrStatus wdata) := of_packed rfl rfl rfl
theorem pushIdle (hi : BitVec 24) (b : Byte) : Statement (.pushIdle hi b) := of_packed rfl rfl rfl
theorem pushRaw (hi : BitVec 24) (b : Byte) : Statement (.pushRaw hi b) := of_packed rfl rfl rfl
theorem pushRxh (hi : BitVec 24) (b : Byte) : Statement (.pushRxh hi b) := of_packed rfl rfl rfl
theorem pushRxp (hi : BitVec 24) (b : Byte) : Statement (.pushRxp hi b) := of_packed rfl rfl rfl
theorem pushTxp (hi : BitVec 24) (b : Byte) : Statement (.pushTxp hi b) := of_packed rfl rfl rfl
theorem wrDout (wdata : Word) : Statement (.wrDout wdata) := of_packed rfl rfl rfl
theorem wrCrcOut (wdata : Word) : Statement (.wrCrcOut wdata) := of_packed rfl rfl rfl
theorem wrCrcAcc (wdata : Word) : Statement (.wrCrcAcc wdata) := of_packed rfl rfl rfl
theorem wrHcnt (wdata : Word) : Statement (.wrHcnt wdata) := of_packed rfl rfl rfl
theorem wrPcnt (wdata : Word) : Statement (.wrPcnt wdata) := of_packed rfl rfl rfl
theorem wrConfig (wdata : Word) : Statement (.wrConfig wdata) := of_packed rfl rfl rfl
theorem wrRsvd (a : RegIndex) (wdata : Word) : Statement (.wrRsvd a wdata) := of_packed rfl rfl rfl
theorem rdHdrType (wdata : Word) : Statement (.rdHdrType wdata) := of_packed rfl rfl rfl
theorem rdHdrSeq (wdata : Word) : Statement (.rdHdrSeq wdata) := of_packed rfl rfl rfl
theorem rdHdrLen (wdata : Word) : Statement (.rdHdrLen wdata) := of_packed rfl rfl rfl
theorem rdHdrCsum (wdata : Word) : Statement (.rdHdrCsum wdata) := of_packed rfl rfl rfl
theorem rdCmd (wdata : Word) : Statement (.rdCmd wdata) := of_packed rfl rfl rfl
theorem rdStatus (wdata : Word) : Statement (.rdStatus wdata) := of_packed rfl rfl rfl
theorem rdDin (wdata : Word) : Statement (.rdDin wdata) := of_packed rfl rfl rfl
theorem pop (wdata : Word) : Statement (.pop wdata) := of_packed rfl rfl rfl
theorem rdCrcOut (wdata : Word) : Statement (.rdCrcOut wdata) := of_packed rfl rfl rfl
theorem rdCrcAcc (wdata : Word) : Statement (.rdCrcAcc wdata) := of_packed rfl rfl rfl
theorem rdHcnt (wdata : Word) : Statement (.rdHcnt wdata) := of_packed rfl rfl rfl
theorem rdPcnt (wdata : Word) : Statement (.rdPcnt wdata) := of_packed rfl rfl rfl
theorem rdConfig (wdata : Word) : Statement (.rdConfig wdata) := of_packed rfl rfl rfl
theorem rdRsvd (a : RegIndex) (wdata : Word) : Statement (.rdRsvd a wdata) := of_packed rfl rfl rfl

end Sys2Proof.Laws.Fields
end

