-- ==== Sys2Proof/Tests/Slice0.lean ====
section
/-! SUPPORT. Small tests of the model against values the spec writes out (each test names the rule or the
vector it takes them from), the smoke test of well-formedness, and a witness for each statement that
has hypotheses: a concrete state and operands that meet them. -/

open Sys2Proof Sys2Proof.Machine

namespace Sys2Proof.Tests

/-! ## Helpers -/

/-- The state a result leaves, if it leaves one. -/
def nextOf : Result → Option State
  | .next t => some t
  | .fault _ => none
  | .refused _ => none

/-- One field of the state a result leaves. -/
def after {α : Type} (f : State → α) (r : Result) : Option α := (nextOf r).map f

/-- The big-endian, 4-byte-type build. -/
def be4 : Params := ⟨.be, .four⟩

/-- A block with nothing done but its mode set. -/
def inMode (p : Params) (m : Mode) : State := { State.resetWith p with mode := m }

/-- In RXH with `n` header bytes in. -/
def rxhAt (p : Params) (n : BitVec 5) : State := { inMode p .rxh with hcnt := n }

/-- In RXP with header `h` received and `n` payload bytes in. -/
def rxpWith (p : Params) (h : Header) (n : Word) : State :=
  { setHeader h (inMode p .rxp) with
    hbuf := encodeHeader p h, hcnt := BitVec.ofNat 5 p.hdrSize, rxhdr := true, pcnt := n }

/-- In TXP with header `h` and `n` payload bytes in. -/
def txpWith (p : Params) (h : Header) (n : Word) : State :=
  { setHeader h (inMode p .txp) with pcnt := n }

/-- A DATA header that promises five bytes. -/
def data5 : Header := ⟨2#32, 0#32, 5#32, 0x8FD24646#32⟩

/-- With a whole header in `HBUF` and `n` of its bytes popped. -/
def poppedAt (p : Params) (n : BitVec 5) : State :=
  { State.resetWith p with hcnt := BitVec.ofNat 5 p.hdrSize, rptr := n }

/-- ASCII "hello" (V2.1). -/
def hello : List Byte := [0x68#8, 0x65#8, 0x6C#8, 0x6C#8, 0x6F#8]

/-- The sealed header of DATA, seq 0, len 5, "hello", for LE and a 1-byte type (V3.1). -/
def helloHeader : List Byte :=
  [2#8, 0#8, 0#8, 0#8, 0#8, 5#8, 0#8, 0#8, 0#8, 0x46#8, 0x46#8, 0xD2#8, 0x8F#8]

/-! ## Well-formedness: the ill-formed terms are refused -/

theorem test_wf_refuses_command_8 : (Instr.cmdRsvd 0#24 8#8).wf = false := by decide
theorem test_wf_accepts_command_9 : (Instr.cmdRsvd 0#24 9#8).wf = true := by decide
theorem test_wf_refuses_write_index_12 : (Instr.wrRsvd 12#6 0#32).wf = false := by decide
theorem test_wf_accepts_write_index_13 : (Instr.wrRsvd 13#6 0#32).wf = true := by decide
theorem test_wf_refuses_read_index_12 : (Instr.rdRsvd 12#6 0#32).wf = false := by decide
theorem test_wf_accepts_read_index_63 : (Instr.rdRsvd 63#6 0#32).wf = true := by decide
theorem test_inMode_refuses_push_of_another_mode :
    (Instr.pushRaw 0#24 0#8).inMode .rxh = false ∧ (Instr.pushIdle 0#24 0#8).inMode .raw = false ∧
    (Instr.pushRxh 0#24 0#8).inMode .rxp = false ∧ (Instr.pushRxp 0#24 0#8).inMode .txp = false ∧
    (Instr.pushTxp 0#24 0#8).inMode .idle = false := by decide

/-! ## Decoding: words written out from R92 and the rules' encodings

The words are `we` (1 bit), `a` (6 bits), `wdata` (32 bits). -/

/-- R156 to R159, bit by bit: `we = 1`, `a` = 0, 1, 2, 3. -/
theorem test_decode_header_writes :
    decode .idle 0b100000010100101101001011010010110100101#39 = .wrHdrType 0xA5A5A5A5#32 ∧
    decode .idle 0b100000110100101101001011010010110100101#39 = .wrHdrSeq 0xA5A5A5A5#32 ∧
    decode .idle 0b100001010100101101001011010010110100101#39 = .wrHdrLen 0xA5A5A5A5#32 ∧
    decode .idle 0b100001110100101101001011010010110100101#39 = .wrHdrCsum 0xA5A5A5A5#32 := by decide

/-- R160 to R163: `we = 0`, `a` = 0, 1, 2, 3. -/
theorem test_decode_header_reads :
    decode .idle 0b000000000000000000000000000000000000000#39 = .rdHdrType 0#32 ∧
    decode .idle 0x0100000000#39 = .rdHdrSeq 0#32 ∧
    decode .idle 0x0200000000#39 = .rdHdrLen 0#32 ∧
    decode .idle 0x0300000000#39 = .rdHdrCsum 0#32 := by decide

/-- R135, R164, R165, R181, R184, R201, R203, R220 to R222: `we = 1`, `a = 4`, `wdata[7:0]` the code. -/
theorem test_decode_commands :
    decode .idle 0x4400000000#39 = .nop 0#24 ∧ decode .idle 0x4400000001#39 = .crcStart 0#24 ∧
    decode .idle 0x4400000002#39 = .enc 0#24 ∧ decode .idle 0x4400000003#39 = .enc0 0#24 ∧
    decode .idle 0x4400000004#39 = .rxBegin 0#24 ∧ decode .idle 0x4400000005#39 = .rxEnd 0#24 ∧
    decode .idle 0x4400000006#39 = .txBegin 0#24 ∧ decode .idle 0x4400000007#39 = .txEnd 0#24 ∧
    decode .idle 0x4400000008#39 = .clr 0#24 ∧ decode .idle 0x4400000009#39 = .cmdRsvd 0#24 9#8 ∧
    decode .idle 0x44000000FF#39 = .cmdRsvd 0#24 0xFF#8 := by decide

/-- R136, R182, R183, R202, R223: one word, `we = 1`, `a = 6`, in the five modes. -/
theorem test_decode_pushes :
    decode .idle 0b100011000000000000000000000000000110001#39 = .pushIdle 0#24 0x31#8 ∧
    decode .raw 0x4600000031#39 = .pushRaw 0#24 0x31#8 ∧
    decode .rxh 0x4600000031#39 = .pushRxh 0#24 0x31#8 ∧
    decode .rxp 0x4600000031#39 = .pushRxp 0#24 0x31#8 ∧
    decode .txp 0x46FFFFFF31#39 = .pushTxp 0xFFFFFF#24 0x31#8 := by decide

/-- R137, R138, R166, R167, R185, R224, R225: the reads, `a` = 8, 9, 7, 10, 11, 5, 12. -/
theorem test_decode_reads :
    decode .idle 0b000100000000000000000000000000000000000#39 = .rdCrcOut 0#32 ∧
    decode .idle 0x0900000000#39 = .rdCrcAcc 0#32 ∧ decode .idle 0x0700000000#39 = .pop 0#32 ∧
    decode .idle 0x0A00000000#39 = .rdHcnt 0#32 ∧ decode .idle 0x0B00000000#39 = .rdPcnt 0#32 ∧
    decode .idle 0x0500000000#39 = .rdStatus 0#32 ∧
    decode .idle 0x0C00000000#39 = .rdConfig 0#32 := by decide

/-- R226 to R228: reads of 4 and 6, writes of 5 and 7 to 12, indices 13 to 63. -/
theorem test_decode_wrong_direction_and_reserved :
    decode .idle 0x0400000000#39 = .rdCmd 0#32 ∧ decode .idle 0x0600000000#39 = .rdDin 0#32 ∧
    decode .idle 0x4500000001#39 = .wrStatus 1#32 ∧ decode .idle 0x4700000001#39 = .wrDout 1#32 ∧
    decode .idle 0x4800000001#39 = .wrCrcOut 1#32 ∧ decode .idle 0x4900000001#39 = .wrCrcAcc 1#32 ∧
    decode .idle 0x4A00000001#39 = .wrHcnt 1#32 ∧ decode .idle 0x4B00000001#39 = .wrPcnt 1#32 ∧
    decode .idle 0x4C00000001#39 = .wrConfig 1#32 ∧
    decode .idle 0b100110100000000000000000000000000000001#39 = .wrRsvd 13#6 1#32 ∧
    decode .idle 0x7F00000001#39 = .wrRsvd 63#6 1#32 ∧
    decode .idle 0x0D00000000#39 = .rdRsvd 13#6 0#32 ∧
    decode .idle 0x3F00000000#39 = .rdRsvd 63#6 0#32 := by decide

/-- A 40-bit number is no transaction word (R92): rejected by name. -/
theorem test_decode_rejects_forty_bits :
    decodeNat .idle 0x8000000000 = .error .widerThan39Bits ∧ decodeTableWord 40 0x8000000000 = none ∧
    decodeTableWord 39 0x4400000004 = some (.rxBegin 0#24) := by decide

/-! ## The functions of the spec against its vectors -/

/-- V2.3, the eight shift steps of one byte. -/
theorem test_crc_shift_trace :
    (List.range 8).map (fun k => crcShifts (k + 1) 0xFFFFFFCE#32) =
      [0x7FFFFFE7#32, 0xD2477CD3#32, 0x849B3D49#32, 0xAFF51D84#32, 0x57FA8EC2#32, 0x2BFD4761#32,
       0xF8462090#32, 0x7C231048#32] := by decide +kernel

/-- V2.1. -/
theorem test_crc32_of_vectors :
    crc32 [] = 0x00000000#32 ∧ crc32 [0x00#8] = 0xD202EF8D#32 ∧ crc32 [0x80#8] = 0x3FBA6CAD#32 ∧
    crc32 [0x61#8, 0x62#8, 0x63#8] = 0x352441C2#32 := by decide +kernel

/-- V2.4. -/
theorem test_crc_table_entries :
    crcTab 1#8 = 0x77073096#32 ∧ crcTab 127#8 = 0xC0BA6CAD#32 ∧ crcTab 128#8 = 0xEDB88320#32 ∧
    crcTab 255#8 = 0x2D02EF8D#32 := by decide +kernel

/-- E3: one header in both byte orders. -/
theorem test_encode_both_orders :
    encodeHeader ⟨.le, .one⟩ ⟨3#32, 0xA1B2C3D4#32, 0#32, 0xCAFEF00D#32⟩ =
      [0x03#8, 0xD4#8, 0xC3#8, 0xB2#8, 0xA1#8, 0#8, 0#8, 0#8, 0#8, 0x0D#8, 0xF0#8, 0xFE#8, 0xCA#8] ∧
    encodeHeader ⟨.be, .one⟩ ⟨3#32, 0xA1B2C3D4#32, 0#32, 0xCAFEF00D#32⟩ =
      [0x03#8, 0xA1#8, 0xB2#8, 0xC3#8, 0xD4#8, 0#8, 0#8, 0#8, 0#8, 0xCA#8, 0xFE#8, 0xF0#8, 0x0D#8] := by
  decide

/-- V4.1: seven frames and the verdict the vector gives each. -/
theorem test_validate_vectors :
    validate .defaults (helloHeader ++ hello) = .accept ∧
    validate .defaults (helloHeader ++ hello ++ [0x21#8]) = .accept ∧
    validate .defaults (helloHeader ++ hello.set 0 0x69#8) = .crcErr ∧
    validate .defaults (helloHeader.set 0 3#8 ++ hello) = .crcErr ∧
    validate .defaults (helloHeader.set 5 6#8 ++ hello) = .lenerr ∧
    validate .defaults (helloHeader ++ hello.take 4) = .lenerr ∧
    validate .defaults (helloHeader.take 12) = .short := by decide +kernel

/-- V3.1: DATA seq 0 len 5 "hello" in two builds. -/
theorem test_seal_vectors :
    sealPacket .defaults 2#32 0#32 5#32 hello = some helloHeader ∧
    sealPacket be4 2#32 0#32 5#32 hello = some [0#8, 0#8, 0#8, 2#8, 0#8, 0#8, 0#8, 0#8, 0#8, 0#8, 0#8,
      5#8, 0x52#8, 0xCB#8, 0x34#8, 0xD7#8] ∧
    sealPacket .defaults 2#32 0#32 6#32 hello = none := by decide +kernel

/-- R13, R37: the four enumerated types, and the first type that is none of them. -/
theorem test_type_enumeration :
    [typeStart, typeEnd, typeData, typeAck] = [0#32, 1#32, 2#32, 3#32] ∧
    typeKnown { State.reset with hdrType := 3#32 } = true ∧
    typeKnown { State.reset with hdrType := 4#32 } = false := by decide

/-! ## One step of each transaction -/

/-- V4.4: `WR HDR_TYPE, 0x1FF` keeps 8 bits (`TYPE_BYTES = 1`). -/
theorem test_wrHdrType_keeps_eight_bits :
    after State.hdrType (exec (.wrHdrType 0x1FF#32) .reset) = some 0xFF#32 ∧
    after State.hdrType (exec (.wrHdrType 0x1FF#32) (.resetWith be4)) = some 0x1FF#32 := by decide

/-- R157 and R25: stored in RAW, refused with `ERR_SEQ` in RXH. -/
theorem test_wrHdrSeq :
    after State.hdrSeq (exec (.wrHdrSeq 7#32) (inMode .defaults .raw)) = some 7#32 ∧
    after (fun t => (t.hdrSeq, t.errSeq)) (exec (.wrHdrSeq 7#32) (rxhAt .defaults 0#5)) =
      some (0#32, true) := by decide

/-- R158 and R35: an accepted write clears `RXHDR`. -/
theorem test_wrHdrLen :
    after (fun t => (t.hdrLen, t.rxhdr)) (exec (.wrHdrLen 9#32) { State.reset with rxhdr := true }) =
      some (9#32, false) := by decide

/-- R159 and R25: refused in TXP. -/
theorem test_wrHdrCsum :
    after State.hdrCsum (exec (.wrHdrCsum 9#32) .reset) = some 9#32 ∧
    after (fun t => (t.hdrCsum, t.errSeq)) (exec (.wrHdrCsum 9#32) (inMode .defaults .txp)) =
      some (0#32, true) := by decide

/-- R160 to R163. -/
theorem test_header_reads :
    after State.rdata (exec (.rdHdrType 0#32) (txpWith be4 ⟨1#32, 2#32, 3#32, 4#32⟩ 0#32)) = some 1#32 ∧
    after State.rdata (exec (.rdHdrSeq 0#32) (txpWith be4 ⟨1#32, 2#32, 3#32, 4#32⟩ 0#32)) = some 2#32 ∧
    after State.rdata (exec (.rdHdrLen 0#32) (txpWith be4 ⟨1#32, 2#32, 3#32, 4#32⟩ 0#32)) = some 3#32 ∧
    after State.rdata (exec (.rdHdrCsum 0#32) (txpWith be4 ⟨1#32, 2#32, 3#32, 4#32⟩ 0#32)) =
      some 4#32 := by decide

/-- R135: `RPTR` and `HCNT` stay, the flow flags go. -/
theorem test_crcStart :
    after (fun t => (t.mode, t.hcnt, t.rptr, t.done, t.acc))
      (exec (.crcStart 0#24) { poppedAt .defaults 3#5 with done := true, acc := 0#32 }) =
      some (.raw, 13#5, 3#5, false, 0xFFFFFFFF#32) := by decide

/-- V2.2, the first byte, and R31: `PCNT` saturates. -/
theorem test_pushRaw :
    after State.acc (exec (.pushRaw 0#24 0x31#8) (inMode .defaults .raw)) = some 0x7C231048#32 ∧
    after State.pcnt (exec (.pushRaw 0#24 0x31#8)
      { inMode .defaults .raw with pcnt := 0xFFFFFFFF#32 }) = some 0xFFFFFFFF#32 := by decide +kernel

/-- V2.1: the empty list, and "123456789". -/
theorem test_rdCrcOut :
    after State.rdata (exec (.rdCrcOut 0#32) .reset) = some 0#32 ∧
    after State.rdata (exec (.rdCrcOut 0#32) { State.reset with acc := 0x340BC6D9#32 }) =
      some 0xCBF43926#32 := by decide

/-- R138. -/
theorem test_rdCrcAcc :
    after State.rdata (exec (.rdCrcAcc 0#32) { State.reset with acc := 0x340BC6D9#32 }) =
      some 0x340BC6D9#32 := by decide

/-- E3 through `ENC`; V4.4 through `ENC0`. -/
theorem test_enc_and_enc0 :
    after State.hbuf (exec (.enc 0#24)
      (setHeader ⟨3#32, 0xA1B2C3D4#32, 0#32, 0xCAFEF00D#32⟩ .reset)) =
      some [0x03#8, 0xD4#8, 0xC3#8, 0xB2#8, 0xA1#8, 0#8, 0#8, 0#8, 0#8, 0x0D#8, 0xF0#8, 0xFE#8, 0xCA#8] ∧
    after (fun t => (t.hbuf, t.hdrCsum, t.hcnt)) (exec (.enc0 0#24)
      (setHeader ⟨3#32, 0xA1B2C3D4#32, 0#32, 0xCAFEF00D#32⟩ .reset)) =
      some ([0x03#8, 0xD4#8, 0xC3#8, 0xB2#8, 0xA1#8, 0#8, 0#8, 0#8, 0#8, 0#8, 0#8, 0#8, 0#8],
        0xCAFEF00D#32, 13#5) := by decide

/-- R164: refused while a flow holds the header. -/
theorem test_enc_refused :
    after (fun t => (t.hcnt, t.errSeq)) (exec (.enc 0#24) (rxhAt .defaults 4#5)) = some (4#5, true) ∧
    after (fun t => (t.hcnt, t.errSeq)) (exec (.enc0 0#24) (inMode be4 .txp)) = some (0#5, true) := by
  decide

/-- R166: a byte, then (after the last) zero and `UNDERRUN`. -/
theorem test_pop :
    after (fun t => (t.rdata, t.rptr)) (exec (.pop 0#32)
      { poppedAt .defaults 12#5 with hbuf := helloHeader }) = some (0x8F#32, 13#5) ∧
    after (fun t => (t.rdata, t.rptr, t.underrun)) (exec (.pop 0#32)
      { poppedAt .defaults 13#5 with hbuf := helloHeader }) = some (0#32, 13#5, true) := by decide

/-- R167, R185. -/
theorem test_counter_reads :
    after State.rdata (exec (.rdHcnt 0#32) (poppedAt be4 3#5)) = some 16#32 ∧
    after State.rdata (exec (.rdPcnt 0#32) { State.reset with pcnt := 0xFFFFFFFF#32 }) =
      some 0xFFFFFFFF#32 := by decide

/-- R181. -/
theorem test_rxBegin :
    after (fun t => (t.mode, t.hcnt, t.rptr, t.rxhdr, t.acc)) (exec (.rxBegin 0#24)
      { rxpWith .defaults data5 2#32 with rptr := 1#5 }) =
      some (.rxh, 0#5, 0#5, false, 0xFFFFFFFF#32) := by decide

/-- R182: a checksum byte is stored as received and absorbed as zero (V2.1, the byte 00). -/
theorem test_pushRxh_checksum_byte :
    after (fun t => (t.hbuf[9]?, t.acc, t.hcnt)) (exec (.pushRxh 0#24 0x46#8) (rxhAt .defaults 9#5)) =
      some (some 0x46#8, 0x2DFD1072#32, 10#5) := by decide +kernel

/-- V4.2: the 13th byte decodes the header, and `ACC` is then `0xD8370252`. -/
theorem test_pushRxh_last_byte :
    after (fun t => (t.mode, t.rxhdr, t.header, t.acc)) (exec (.pushRxh 0#24 0x8F#8)
      { rxhAt .defaults 12#5 with
        hbuf := helloHeader.set 12 0#8, acc := crcAbsorb crcInit (zeroCsum .defaults (helloHeader.take 12)) }) =
      some (.rxp, true, data5, 0xD8370252#32) := by decide +kernel

/-- R183: the fifth byte of five is covered, the sixth is `EXTRA`. -/
theorem test_pushRxp :
    after (fun t => (t.extra, t.pcnt)) (exec (.pushRxp 0#24 1#8) (rxpWith .defaults data5 4#32)) =
      some (false, 5#32) ∧
    after (fun t => (t.extra, t.pcnt, t.acc)) (exec (.pushRxp 0#24 1#8) (rxpWith .defaults data5 5#32)) =
      some (true, 6#32, 0xFFFFFFFF#32) := by decide +kernel

/-- V4.1, the good frame: `ACC` = not `0x8FD24646`. -/
theorem test_rxEnd_accepts :
    after (fun t => (t.accept, t.crcErr, t.done, t.mode)) (exec (.rxEnd 0#24)
      { rxpWith .defaults data5 5#32 with acc := 0x702DB9B9#32 }) = some (true, false, true, .idle) ∧
    after (fun t => (t.accept, t.lenerr, t.crcErr)) (exec (.rxEnd 0#24)
      { rxpWith .defaults data5 4#32 with acc := 0x702DB9B9#32 }) = some (false, true, false) := by decide

/-- V4.1, twelve bytes: `SHORT`; R184: `ERR_SEQ` in TXP. -/
theorem test_rxEnd_short_and_misuse :
    after (fun t => (t.short, t.crcErr, t.done)) (exec (.rxEnd 0#24) (rxhAt .defaults 12#5)) =
      some (true, false, true) ∧
    after (fun t => (t.errSeq, t.done, t.mode)) (exec (.rxEnd 0#24) (inMode .defaults .txp)) =
      some (true, false, .txp) := by decide

/-- V3.2. -/
theorem test_txBegin :
    after State.acc (exec (.txBegin 0#24) (setHeader ⟨2#32, 0#32, 5#32, 0#32⟩ .reset)) =
      some 0xD8370252#32 ∧
    after State.acc (exec (.txBegin 0#24) .reset) = some 0xF08BB97D#32 := by decide +kernel

/-- R202. -/
theorem test_pushTxp :
    after (fun t => (t.extra, t.pcnt)) (exec (.pushTxp 0#24 1#8) (txpWith .defaults data5 4#32)) =
      some (false, 5#32) ∧
    after (fun t => (t.extra, t.pcnt)) (exec (.pushTxp 0#24 0x55#8)
      (txpWith .defaults ⟨3#32, 1#32, 0#32, 0#32⟩ 0#32)) = some (true, 1#32) := by decide +kernel

/-- V4.3, exact payload and one byte missing. -/
theorem test_txEnd :
    after (fun t => (t.hdrCsum, t.hbuf, t.lenerr)) (exec (.txEnd 0#24)
      { txpWith .defaults data5 5#32 with hdrCsum := 0#32, acc := 0x702DB9B9#32 }) =
      some (0x8FD24646#32, helloHeader, false) ∧
    after (fun t => (t.hdrCsum, t.hcnt, t.lenerr, t.done)) (exec (.txEnd 0#24)
      { txpWith .defaults data5 4#32 with hdrCsum := 0#32 }) = some (0#32, 0#5, true, true) := by decide

/-- R220, R222. -/
theorem test_nop_and_reserved_command :
    after (fun t => (t.errCmd, t.mode)) (exec (.nop 0xABCDEF#24) (inMode be4 .rxh)) = some (false, .rxh) ∧
    after (fun t => (t.errCmd, t.mode)) (exec (.cmdRsvd 0#24 0xFF#8) (inMode be4 .rxh)) =
      some (true, .rxh) := by decide

/-- R221. -/
theorem test_clr :
    nextOf (exec (.clr 0#24) { rxpWith be4 data5 2#32 with errSeq := true, underrun := true }) =
      some (.resetWith be4) := by decide

/-- R223. -/
theorem test_pushIdle :
    after (fun t => (t.errSeq, t.acc, t.pcnt)) (exec (.pushIdle 0#24 1#8) .reset) =
      some (true, 0xFFFFFFFF#32, 0#32) := by decide

/-- R50, V4.2. -/
theorem test_rdStatus :
    after State.rdata (exec (.rdStatus 0#32) .reset) = some 0x00000080#32 ∧
    after State.rdata (exec (.rdStatus 0#32) (rxpWith .defaults data5 0#32)) = some 0x000030C0#32 := by
  decide

/-- R39. -/
theorem test_rdConfig :
    after State.rdata (exec (.rdConfig 0#32) .reset) = some 0x00000D00#32 ∧
    after State.rdata (exec (.rdConfig 0#32) (.resetWith be4)) = some 0x00001003#32 := by decide

/-- R226, R228: reads of nothing return 0 and set no flag. -/
theorem test_reads_of_nothing :
    nextOf (exec (.rdCmd 1#32) .reset) = some .reset ∧ nextOf (exec (.rdDin 1#32) .reset) = some .reset ∧
    nextOf (exec (.rdRsvd 63#6 1#32) .reset) = some .reset := by decide

/-- R227, R228: ignored writes. -/
theorem test_ignored_writes :
    nextOf (exec (.wrStatus 1#32) .reset) = some .reset ∧ nextOf (exec (.wrDout 1#32) .reset) = some .reset ∧
    nextOf (exec (.wrCrcOut 1#32) .reset) = some .reset ∧
    nextOf (exec (.wrCrcAcc 1#32) .reset) = some .reset ∧
    nextOf (exec (.wrHcnt 1#32) .reset) = some .reset ∧ nextOf (exec (.wrPcnt 1#32) .reset) = some .reset ∧
    nextOf (exec (.wrConfig 1#32) .reset) = some .reset ∧
    nextOf (exec (.wrRsvd 13#6 1#32) .reset) = some .reset := by decide

/-! ## Steps -/

/-- R60, R340: a presented word runs; `rst` overrides it. -/
theorem test_step :
    after State.mode (step (State.reset.withFetchWord 39 0x4400000004)) = some .rxh ∧
    after State.mode (step (State.reset.present ⟨true, true, 0x4400000004#39⟩)) = some .idle ∧
    after State.mode (step (State.reset.present ⟨false, false, 0x4400000004#39⟩)) = some .idle := by decide

/-! ## Witnesses: a state and operands that meet the hypotheses of each statement that has any -/

theorem test_witness_StepExecutesPresentedTransaction :
    (State.reset.present (presentTxn 0x4400000004#39)).inbox =
      ⟨false, true, 0x4400000004#39⟩ :: State.reset.inbox := rfl

theorem test_witness_ResetStepOverridesThePort :
    (State.reset.present ⟨true, true, 0x4400000004#39⟩).inbox =
      ⟨true, true, 0x4400000004#39⟩ :: State.reset.inbox := rfl

theorem test_witness_StepWithoutTransactionChangesNothing :
    (State.reset.present ⟨false, false, 0x4400000004#39⟩).inbox =
      ⟨false, false, 0x4400000004#39⟩ :: State.reset.inbox ∧ State.reset.inbox = [] := ⟨rfl, rfl⟩

theorem test_witness_SequenceIsFoldOfSteps :
    ∃ t u ra rb, runTxns [cmdTxn 1#8] .reset = .next (t, ra) ∧
      runTxns [writeTxn 1 5#32, readTxn 1] t = .next (u, rb) := ⟨_, _, _, _, rfl, rfl⟩

theorem test_witness_ResetStateAndItsReads : State.reset = State.resetWith .defaults := rfl

/-- The reserved operands at both ends of their ranges, and each `PUSH` row in its mode. -/
theorem test_witness_DecodeOfEncodeIsIdentity :
    (∀ op ∈ [9#8, 0xFF#8], (Instr.cmdRsvd 0#24 op).wf = true ∧ (Instr.cmdRsvd 0#24 op).inMode .rxh = true) ∧
    (∀ a ∈ [13#6, 63#6], (Instr.wrRsvd a 0#32).wf = true ∧ (Instr.rdRsvd a 0#32).wf = true) ∧
    (Instr.pushIdle 0#24 0#8).inMode .idle = true ∧ (Instr.pushRaw 0#24 0#8).inMode .raw = true ∧
    (Instr.pushRxh 0#24 0#8).inMode .rxh = true ∧ (Instr.pushRxp 0#24 0#8).inMode .rxp = true ∧
    (Instr.pushTxp 0#24 0#8).inMode .txp = true := by decide

/-- Two different words for each clause: a read, and writes of 4, 6 and 0 that agree in `wdata[7:0]`. -/
theorem test_witness_IgnoredBitsHaveNoEffect :
    (weField 0x0700000001#39 = false ∧ weField 0x0700000002#39 = false ∧
      indexField 0x0700000001#39 = indexField 0x0700000002#39) ∧
    (∀ a ∈ [4#6, 6#6, 0#6],
      weField (packWord true a 0x1FF#32) = weField (packWord true a 0x2FF#32) ∧
      indexField (packWord true a 0x1FF#32) = a ∧ indexField (packWord true a 0x2FF#32) = a ∧
      (wdataField (packWord true a 0x1FF#32)).extractLsb' 0 8 =
        (wdataField (packWord true a 0x2FF#32)).extractLsb' 0 8) ∧
    State.reset.params.typeBytes = .one := by decide

theorem test_witness_SerialisationByteOrder : (0 < 4) ∧ (3 < 4) := by decide

theorem test_witness_HeaderWritesStoreOrAreRefused :
    State.reset.mode = .idle ∧ State.reset.params.typeBytes = .one ∧
    (inMode be4 .raw).mode = .raw ∧ (inMode be4 .raw).params.typeBytes = .four ∧
    (rxhAt be4 0#5).mode = .rxh ∧ (rxpWith be4 data5 0#32).mode = .rxp ∧
    (txpWith be4 data5 0#32).mode = .txp := by decide

/-- A word for each clause: no header write, a locked one, the last header byte, a sealing `TX_END`. -/
theorem test_witness_HeaderRegistersChangeOnlyBy :
    (∃ t, stepWord (cmdTxn 1#8) .reset = .next t) ∧ isClr (cmdTxn 1#8) = false ∧
    (∀ k ∈ [0, 1, 2, 3], writesHeaderReg k (cmdTxn 1#8) = false) ∧
    completesHeader .reset (cmdTxn 1#8) = false ∧ sealsHeader .reset (cmdTxn 1#8) = false ∧
    (∃ t, stepWord (writeTxn 3 1#32) (txpWith .defaults data5 5#32) = .next t) ∧
    headerLocked (txpWith .defaults data5 5#32).mode = true ∧
    (∃ t, stepWord (pushTxn 1#8) (rxhAt be4 15#5) = .next t) ∧
    completesHeader (rxhAt be4 15#5) (pushTxn 1#8) = true ∧
    (∃ t, stepWord (cmdTxn 7#8) (txpWith .defaults data5 5#32) = .next t) ∧
    sealsHeader (txpWith .defaults data5 5#32) (cmdTxn 7#8) = true :=
  ⟨⟨_, rfl⟩, by decide, by decide, by decide, by decide, ⟨_, rfl⟩, by decide, ⟨_, rfl⟩, by decide,
    ⟨_, rfl⟩, by decide⟩

theorem test_witness_PushInRawAbsorbs :
    (inMode .defaults .raw).mode = .raw ∧ (inMode .defaults .raw).pcnt = 0#32 ∧
    { inMode .defaults .raw with pcnt := 0xFFFFFFFF#32 }.mode = .raw := by decide

/-- Two lists that differ in all of a 32-bit window, and in one byte of a longer list. -/
theorem test_witness_BurstsOf32BitsAreDetected :
    ([0#8, 0#8, 0#8, 0#8, 7#8] ≠ [0xFF#8, 0xFF#8, 0xFF#8, 0xFF#8, 7#8]) ∧
    DifferWithin32 [0#8, 0#8, 0#8, 0#8, 7#8] [0xFF#8, 0xFF#8, 0xFF#8, 0xFF#8, 7#8] ∧
    [0#8, 0#8, 0#8, 0#8].length ≤ 4 ∧ [0#8, 0#8, 0#8, 0#8] ≠ [0xFF#8, 0xFF#8, 0xFF#8, 0xFF#8] :=
  ⟨by decide,
    ⟨[], bitsOf [0#8, 0#8, 0#8, 0#8], bitsOf [0xFF#8, 0xFF#8, 0xFF#8, 0xFF#8], bitsOf [7#8],
      by decide, by decide, by decide, by decide⟩, by decide, by decide⟩

/-- A next state for each clause: the commands, a push in each mode, anything else. -/
theorem test_witness_AccumulatorChangesOnlyBy :
    (∃ t, stepWord (cmdTxn 1#8) .reset = .next t) ∧ commandOf (cmdTxn 1#8) = some 1#8 ∧
    (∃ t, stepWord (cmdTxn 6#8) .reset = .next t) ∧ commandOf (cmdTxn 6#8) = some 6#8 ∧
    pushedByte (pushTxn 1#8) = some 1#8 ∧
    (∃ t, stepWord (pushTxn 1#8) (inMode .defaults .raw) = .next t) ∧
    (∃ t, stepWord (pushTxn 1#8) (rxhAt .defaults 8#5) = .next t) ∧
    (∃ t, stepWord (pushTxn 1#8) (rxhAt .defaults 9#5) = .next t) ∧
    (∃ t, stepWord (pushTxn 1#8) (rxpWith .defaults data5 4#32) = .next t) ∧
    (∃ t, stepWord (pushTxn 1#8) (txpWith .defaults data5 5#32) = .next t) ∧
    (∃ t, stepWord popTxn .reset = .next t) :=
  ⟨⟨_, rfl⟩, by decide, ⟨_, rfl⟩, by decide, by decide, ⟨_, rfl⟩, ⟨_, rfl⟩, ⟨_, rfl⟩, ⟨_, rfl⟩,
    ⟨_, rfl⟩, ⟨_, rfl⟩⟩

/-- V4.5's shape: pushes with an `ENC` and a pop between. -/
theorem test_witness_RawFlowComputesChecksum :
    ∀ T ∈ [pushTxn 0x31#8, cmdTxn 2#8, popTxn, pushTxn 0x32#8], opensFlow T = false ∧ isClr T = false :=
  fun T hT => by
    simpa using List.all_eq_true.1 (show [pushTxn 0x31#8, cmdTxn 2#8, popTxn, pushTxn 0x32#8].all
      (fun T => !opensFlow T && !isClr T) = true by decide) T hT

theorem test_witness_EncodeCommandsFillHbuf :
    State.reset.mode = .idle ∧ (inMode be4 .raw).mode = .raw ∧ (rxhAt be4 0#5).mode = .rxh ∧
    (rxpWith be4 data5 0#32).mode = .rxp ∧ (txpWith be4 data5 0#32).mode = .txp := by decide

/-- The last byte of `HBUF`, and the counters equal at 0 and at `HDR_SIZE`. -/
theorem test_witness_PopReturnsTheNextByte :
    ((poppedAt be4 15#5).Inv ∧ (poppedAt be4 15#5).rptr.toNat < (poppedAt be4 15#5).hcnt.toNat) ∧
    ((poppedAt be4 16#5).Inv ∧ (poppedAt be4 16#5).rptr = (poppedAt be4 16#5).hcnt) ∧
    (State.reset.Inv ∧ State.reset.rptr = State.reset.hcnt) :=
  ⟨⟨by decide, by decide⟩, ⟨by decide, by decide⟩, ⟨by decide, by decide⟩⟩

theorem test_witness_HeaderCodecRoundTrip :
    (0xFF#32).toNat < 2 ^ Params.defaults.typeWidth ∧ (0xFFFFFFFF#32).toNat < 2 ^ be4.typeWidth ∧
    Params.defaults.hdrSize ≤ helloHeader.length ∧
    (helloHeader.take 12).length < Params.defaults.hdrSize := by decide

theorem test_witness_EncodeFlowReturnsTheWireImage :
    State.reset.mode = .idle ∧ (inMode be4 .raw).mode = .raw ∧
    data5.typ.toNat < 2 ^ State.reset.params.typeWidth ∧
    ((2#8 = 2#8 ∧ data5.csum = data5.csum) ∧ (3#8 = 3#8 ∧ 0#32 = 0#32)) := by decide

/-- A word that leaves `HBUF` alone, a locked `ENC`, and a header byte at either end. -/
theorem test_witness_HbufChangesOnlyBy :
    (∃ t, stepWord (pushTxn 1#8) (inMode be4 .raw) = .next t) ∧ isClr (pushTxn 1#8) = false ∧
    encodes (pushTxn 1#8) = false ∧ sealsHeader (inMode be4 .raw) (pushTxn 1#8) = false ∧
    (inMode be4 .raw).mode ≠ .rxh ∧
    (∃ t, stepWord (cmdTxn 2#8) (rxhAt be4 4#5) = .next t) ∧ isClr (cmdTxn 2#8) = false ∧
    headerLocked (rxhAt be4 4#5).mode = true ∧ sealsHeader (rxhAt be4 4#5) (cmdTxn 2#8) = false ∧
    pushedByte (cmdTxn 2#8) = none ∧
    (∃ t, stepWord (pushTxn 1#8) (rxhAt be4 0#5) = .next t) ∧ (rxhAt be4 0#5).Inv ∧
    (∃ t, stepWord (pushTxn 1#8) (rxhAt be4 15#5) = .next t) ∧ (rxhAt be4 15#5).Inv ∧
    pushedByte (pushTxn 1#8) = some 1#8 :=
  ⟨⟨_, rfl⟩, by decide, by decide, by decide, by decide, ⟨_, rfl⟩, by decide, by decide, by decide,
    by decide, ⟨_, rfl⟩, by decide, ⟨_, rfl⟩, by decide, by decide⟩

/-- The first byte, the last before the checksum field, the first in it, and the last of all. -/
theorem test_witness_PushInRxhTakesHeaderByte :
    (∀ n ∈ [0#5, 8#5, 9#5, 11#5], (rxhAt .defaults n).mode = .rxh ∧
      (rxhAt .defaults n).hcnt.toNat + 1 < (rxhAt .defaults n).params.hdrSize) ∧
    (rxhAt .defaults 0#5).Inv ∧ (rxhAt .defaults 8#5).Inv ∧ (rxhAt .defaults 9#5).Inv ∧
    (rxhAt .defaults 11#5).Inv ∧
    ((rxhAt .defaults 12#5).Inv ∧
      (rxhAt .defaults 12#5).hcnt.toNat + 1 = (rxhAt .defaults 12#5).params.hdrSize) ∧
    ((rxhAt be4 15#5).Inv ∧ (rxhAt be4 15#5).hcnt.toNat + 1 = (rxhAt be4 15#5).params.hdrSize) :=
  ⟨by decide, by decide, by decide, by decide, by decide, ⟨by decide, by decide⟩,
    ⟨by decide, by decide⟩⟩

/-- The last covered byte and the first beyond it, and a control header, in RXP and in TXP. -/
theorem test_witness_PushOfPayloadAbsorbsOrFlags :
    ((rxpWith .defaults data5 4#32).mode = .rxp ∧ (rxpWith .defaults data5 4#32).hdrType = 2#32 ∧
      (rxpWith .defaults data5 4#32).pcnt < (rxpWith .defaults data5 4#32).hdrLen) ∧
    ¬(rxpWith .defaults data5 5#32).pcnt < (rxpWith .defaults data5 5#32).hdrLen ∧
    ((txpWith .defaults data5 4#32).mode = .txp ∧ (txpWith .defaults data5 4#32).hdrType = 2#32 ∧
      (txpWith .defaults data5 4#32).pcnt < (txpWith .defaults data5 4#32).hdrLen) ∧
    ¬(txpWith .defaults data5 5#32).pcnt < (txpWith .defaults data5 5#32).hdrLen ∧
    (txpWith .defaults ⟨3#32, 0#32, 5#32, 0#32⟩ 0#32).hdrType ≠ 2#32 := by decide

/-- All four verdicts, and the three modes that refuse. -/
theorem test_witness_RxEndSetsTheVerdict :
    ((rxhAt .defaults 12#5).mode = .rxh ∧ (rxhAt .defaults 12#5).hcnt.toNat < 13) ∧
    ((rxpWith .defaults data5 4#32).mode = .rxp ∧ ¬(rxpWith .defaults data5 4#32).hcnt.toNat < 13 ∧
      (rxpWith .defaults data5 4#32).pcnt < (rxpWith .defaults data5 4#32).hdrLen) ∧
    { rxpWith .defaults data5 5#32 with acc := 0x702DB9B9#32 }.acc ^^^ 0xFFFFFFFF#32 = data5.csum ∧
    (rxpWith .defaults data5 5#32).acc ^^^ 0xFFFFFFFF#32 ≠ data5.csum ∧
    State.reset.mode = .idle ∧ (inMode be4 .raw).mode = .raw ∧ (inMode be4 .txp).mode = .txp := by decide

/-- A frame that decodes (with a status read in the middle) and one that is a byte short. -/
theorem test_witness_RxFlowValidatesTheFrame :
    State.reset.Inv ∧
    (∀ T ∈ pushTxns helloHeader ++ [readTxn 5] ++ pushTxns hello, commandOf T = none) ∧
    pushedBytes (pushTxns helloHeader ++ [readTxn 5] ++ pushTxns hello) = helloHeader ++ hello ∧
    (helloHeader ++ hello).length ≤ State.reset.params.hdrSize + 0xFFFFFFFF ∧
    decodeHeader .defaults (helloHeader ++ hello) = some (data5, hello) ∧
    decodeHeader .defaults (helloHeader.take 12) = none :=
  ⟨by decide,
    fun T hT => by
      simpa using List.all_eq_true.1 (show (pushTxns helloHeader ++ [readTxn 5] ++ pushTxns hello).all
        (fun T => commandOf T == none) = true by decide +kernel) T hT,
    by decide +kernel, by decide +kernel, by decide +kernel, by decide⟩

theorem test_witness_TxEndSealsTheHeader :
    (txpWith .defaults data5 5#32).mode = .txp ∧
    ¬((txpWith .defaults data5 5#32).hdrType = 2#32 ∧
      (txpWith .defaults data5 5#32).pcnt < (txpWith .defaults data5 5#32).hdrLen) ∧
    ((txpWith .defaults data5 4#32).hdrType = 2#32 ∧
      (txpWith .defaults data5 4#32).pcnt < (txpWith .defaults data5 4#32).hdrLen) ∧
    State.reset.mode = .idle ∧ (inMode be4 .raw).mode = .raw ∧ (rxhAt be4 0#5).mode = .rxh ∧
    (rxpWith be4 data5 0#32).mode = .rxp := by decide

/-- A packet that seals and one with a byte missing. -/
theorem test_witness_TxFlowSealsThePacket :
    State.reset.mode = .idle ∧ (inMode be4 .raw).mode = .raw ∧
    (2#32).toNat < 2 ^ State.reset.params.typeWidth ∧ hello.length ≤ 0xFFFFFFFF ∧
    sealPacket State.reset.params 2#32 0#32 5#32 hello = some helloHeader ∧
    sealPacket State.reset.params 2#32 0#32 6#32 hello = none := by decide +kernel

/-- A DATA packet followed by more than its payload, and a control packet followed by anything. -/
theorem test_witness_SealedPacketsValidate :
    (2#32).toNat < 2 ^ Params.defaults.typeWidth ∧
    sealPacket .defaults 2#32 0#32 5#32 hello = some helloHeader ∧
    hello.take (5#32).toNat <+: hello ++ [0x21#8] ∧
    (sealPacket .defaults 3#32 1#32 0#32 []).isSome = true ∧ (3#32 : Word) ≠ 2#32 := by decide +kernel

/-- V4.1: a payload bit flip, and a checksum field bit flip. -/
theorem test_witness_CorruptedSealedFrameIsRejected :
    decodeHeader .defaults (helloHeader ++ hello) = some (data5, hello) ∧
    validate .defaults (helloHeader ++ hello) = .accept ∧ hello.length = data5.len.toNat ∧
    decodeHeader .defaults (helloHeader ++ hello.set 0 0x69#8) = some (data5, hello.set 0 0x69#8) ∧
    DifferWithin32 (checksumSpan .defaults data5 hello)
      (checksumSpan .defaults data5 (hello.set 0 0x69#8)) ∧
    decodeHeader .defaults (helloHeader.set 9 0x47#8 ++ hello) =
      some ({ data5 with csum := 0x8FD24647#32 }, hello) ∧
    data5.csum ≠ 0x8FD24647#32 :=
  ⟨by decide, by decide +kernel, by decide, by decide,
    ⟨bitsOf (encodeZeroed .defaults data5), bitsOf [0x68#8], bitsOf [0x69#8], bitsOf (hello.drop 1),
      by decide +kernel, by decide +kernel, by decide, by decide⟩, by decide, by decide⟩

theorem test_witness_NopAndReservedCommands : 9 ≤ (9#8).toNat ∧ 9 ≤ (0xFF#8).toNat := by decide

theorem test_witness_PushInIdleIsLost : State.reset.mode = .idle := rfl

theorem test_witness_ConfigIsConstant :
    State.reset.params = ⟨.le, .one⟩ ∧ (State.resetWith ⟨.le, .four⟩).params = ⟨.le, .four⟩ ∧
    (State.resetWith ⟨.be, .one⟩).params = ⟨.be, .one⟩ ∧ (State.resetWith be4).params = ⟨.be, .four⟩ ∧
    (∃ t, step (State.reset.withFetchWord 39 0x4400000008) = .next t) :=
  ⟨rfl, rfl, rfl, rfl, ⟨_, rfl⟩⟩

theorem test_witness_WrongDirectionAndReservedAccesses : 13 ≤ (13#6).toNat ∧ 13 ≤ (63#6).toNat := by decide

theorem test_witness_OnlyDoutReadsChangeState :
    weField (readTxn 0) = false ∧ indexField (readTxn 0) ≠ 7#6 ∧
    weField (readTxn 63) = false ∧ indexField (readTxn 63) ≠ 7#6 := by decide

/-- A cause in each row of R302, and two words that are none. -/
theorem test_witness_SequenceErrorCauses :
    seqMisuse .idle (pushTxn 1#8) = true ∧ seqMisuse .txp (cmdTxn 5#8) = true ∧
    seqMisuse .rxp (cmdTxn 7#8) = true ∧ seqMisuse .rxh (cmdTxn 2#8) = true ∧
    seqMisuse .txp (cmdTxn 3#8) = true ∧ seqMisuse .rxp (writeTxn 3 1#32) = true ∧
    (seqMisuse State.reset.mode (cmdTxn 8#8) = false ∧ ∃ t, stepWord (cmdTxn 8#8) .reset = .next t) ∧
    (seqMisuse State.reset.mode (readTxn 5) = false ∧ ∃ t, stepWord (readTxn 5) .reset = .next t) :=
  ⟨by decide, by decide, by decide, by decide, by decide, by decide, ⟨by decide, _, rfl⟩,
    ⟨by decide, _, rfl⟩⟩

/-- A reserved command, a refused `ENC`, and a pop at `RPTR = HCNT = HDR_SIZE`. -/
theorem test_witness_StickyFlagsOnlyClearedByClr :
    (State.reset.Inv ∧ (∃ t, stepWord (cmdTxn 9#8) .reset = .next t) ∧
      reservedCommand (cmdTxn 9#8) = true) ∧
    ((rxhAt be4 3#5).Inv ∧ (∃ t, stepWord (cmdTxn 2#8) (rxhAt be4 3#5) = .next t) ∧
      seqMisuse (rxhAt be4 3#5).mode (cmdTxn 2#8) = true) ∧
    ((poppedAt be4 16#5).Inv ∧ (∃ t, stepWord popTxn (poppedAt be4 16#5) = .next t) ∧
      (readsDout popTxn && (poppedAt be4 16#5).rptr == (poppedAt be4 16#5).hcnt) = true) :=
  ⟨⟨by decide, ⟨_, rfl⟩, by decide⟩, ⟨by decide, ⟨_, rfl⟩, by decide⟩,
    ⟨by decide, ⟨_, rfl⟩, by decide⟩⟩

theorem test_witness_FlowFlagsClearedOnlyTogether :
    (State.reset.Inv ∧ (∃ t, stepWord (cmdTxn 4#8) .reset = .next t) ∧
      (opensFlow (cmdTxn 4#8) || isClr (cmdTxn 4#8)) = true) ∧
    ((rxpWith be4 data5 5#32).Inv ∧ (∃ t, stepWord (cmdTxn 5#8) (rxpWith be4 data5 5#32) = .next t) ∧
      (opensFlow (cmdTxn 5#8) || isClr (cmdTxn 5#8)) = false) :=
  ⟨⟨by decide, ⟨_, rfl⟩, by decide⟩, ⟨by decide, ⟨_, rfl⟩, by decide⟩⟩

theorem test_witness_RxhdrSetAndCleared :
    (∃ t, stepWord (pushTxn 1#8) (rxhAt be4 15#5) = .next t) ∧
    completesHeader (rxhAt be4 15#5) (pushTxn 1#8) = true ∧
    (∃ t, stepWord (writeTxn 0 1#32) { State.reset with rxhdr := true } = .next t) ∧
    writesHeader (writeTxn 0 1#32) = true ∧ writesHeader (writeTxn 3 1#32) = true :=
  ⟨⟨_, rfl⟩, by decide, ⟨_, rfl⟩, by decide, by decide⟩

theorem test_witness_SequencingStateFollowsTheTable :
    (∃ t, stepWord (pushTxn 1#8) (rxhAt be4 15#5) = .next t) ∧
    (∃ t, stepWord (cmdTxn 7#8) (txpWith be4 data5 5#32) = .next t) ∧
    (∃ t, stepWord popTxn (poppedAt be4 15#5) = .next t) := ⟨⟨_, rfl⟩, ⟨_, rfl⟩, ⟨_, rfl⟩⟩

theorem test_witness_IdempotentTransactions :
    (∃ t, stepWord (writeTxn 0 1#32) (rxhAt be4 0#5) = .next t) ∧ writesHeader (writeTxn 0 1#32) = true ∧
    (∃ t, stepWord (cmdTxn 6#8) .reset = .next t) ∧ commandOf (cmdTxn 6#8) = some 6#8 ∧
    (∃ t, stepWord (cmdTxn 5#8) (rxpWith be4 data5 5#32) = .next t) ∧ commandOf (cmdTxn 5#8) = some 5#8 ∧
    (∃ t, stepWord (cmdTxn 7#8) (txpWith be4 data5 5#32) = .next t) ∧ commandOf (cmdTxn 7#8) = some 7#8 :=
  ⟨⟨_, rfl⟩, by decide, ⟨_, rfl⟩, by decide, ⟨_, rfl⟩, by decide, ⟨_, rfl⟩, by decide⟩

/-- A state of each mode with the invariant, and a step of it. -/
theorem test_witness_StepKeepsTheInvariant :
    (∀ s ∈ [State.reset, inMode be4 .raw, rxhAt .defaults 12#5, rxpWith be4 data5 3#32,
      txpWith .defaults data5 3#32], s.Inv) ∧
    (∃ t, step ((rxhAt .defaults 12#5).present (presentTxn (pushTxn 1#8))) = .next t) ∧
    ((rxhAt .defaults 12#5).present (presentTxn (pushTxn 1#8))).Inv := ⟨by decide, ⟨_, rfl⟩, by decide⟩

/-- In RXP, three of five payload bytes in, `ACC` their remainder. -/
theorem test_witness_StepKeepsTheAccumulatorInvariant :
    ∃ s t : State, s.Inv ∧ s.FlowInv ∧ step s = .next t ∧ s.mode = .rxp ∧ s.pcnt = 3#32 := by
  refine ⟨{ rxpWith .defaults data5 3#32 with
      acc := crcAbsorb crcInit (checksumSpan .defaults data5 (hello.take 3)),
      inbox := [presentTxn (pushTxn 0x6C#8)] }, _, by decide +kernel, ⟨?_, ?_, ?_, ?_⟩, rfl,
    rfl, rfl⟩
  · intro h; exact nomatch h
  · intro h; exact nomatch h
  · intro _
    exact ⟨hello.take 3, by decide, by decide +kernel, by decide⟩
  · exact fun h => nomatch h.1

/-- In RAW, one byte in; and in RXH, two header bytes in: the other two clauses. -/
theorem test_witness_accumulator_in_raw_and_rxh :
    (∃ s t : State, s.Inv ∧ s.FlowInv ∧ step s = .next t ∧ s.mode = .raw ∧ s.pcnt = 1#32) ∧
    (∃ s t : State, s.Inv ∧ s.FlowInv ∧ step s = .next t ∧ s.mode = .rxh ∧ s.hcnt = 2#5) := by
  refine ⟨⟨{ inMode .defaults .raw with
      acc := 0x7C231048#32, pcnt := 1#32, inbox := [presentTxn (pushTxn 0x32#8)] }, _, by decide +kernel,
      ⟨?_, ?_, ?_, ?_⟩, rfl, rfl, rfl⟩,
    ⟨{ rxhAt .defaults 2#5 with
      acc := crcAbsorb crcInit [0#8, 0#8], inbox := [presentTxn (pushTxn 0#8)] }, _, by decide +kernel,
      ⟨?_, ?_, ?_, ?_⟩, rfl, rfl, rfl⟩⟩
  · exact fun _ => ⟨rfl, [0x31#8], by decide, by decide +kernel⟩
  · exact fun h => nomatch h
  · exact fun h => h.elim nofun nofun
  · exact fun h => nomatch h.1
  · exact fun h => nomatch h
  · exact fun _ => ⟨rfl, by decide +kernel⟩
  · exact fun h => h.elim nofun nofun
  · exact fun h => nomatch h.1

end Sys2Proof.Tests
end

section
/-! PROOFS. Serialisation of a 4-byte value and of the 1-byte type (spec/00_scope.md R17): the byte at each
position, and that `ser` and `des` undo each other in both byte orders. -/

namespace Sys2Proof.Machine

/-! ## The two orders mirror each other, so each fact is proved in one of them -/

/-- `ser_4` in little-endian order is the big-endian list read backwards. -/
theorem ser4_le_eq_reverse (v : Word) : ser4 .le v = (ser4 .be v).reverse := rfl

/-- `des_4` in little-endian order takes the bytes of the big-endian one backwards. -/
theorem des4_le_eq_be (b0 b1 b2 b3 : Byte) : des4 .le b0 b1 b2 b3 = des4 .be b3 b2 b1 b0 := rfl

/-! ## Which byte comes where -/

/-- Little-endian order: byte `i` holds bits `8 i` and up (R17). -/
theorem ser4_le_getElem? (v : Word) {i : Nat} (h : i < 4) :
    (ser4 .le v)[i]? = some (v.extractLsb' (8 * i) 8) := by
  interval_cases i <;> rfl

/-- Big-endian order: byte `i` is the little-endian byte `3 - i`. -/
theorem ser4_be_getElem? (v : Word) {i : Nat} (h : i < 4) :
    (ser4 .be v)[i]? = some (v.extractLsb' (8 * (3 - i)) 8) := by
  rw [← ser4_le_getElem? v (by omega : 3 - i < 4), ser4_le_eq_reverse,
    List.getElem?_reverse (by rw [length_ser4]; omega), length_ser4]
  congr 1
  omega

/-! ## `des_4` undoes `ser_4` -/

/-- A word is the concatenation of its four bytes, the most significant first. -/
theorem cat4_extractLsb' (v : Word) :
    v.extractLsb' 24 8 ++ v.extractLsb' 16 8 ++ v.extractLsb' 8 8 ++ v.extractLsb' 0 8 = v := by
  rw [BitVec.extractLsb'_append_extractLsb'_eq_extractLsb' (by rfl),
    BitVec.extractLsb'_append_extractLsb'_eq_extractLsb' (by rfl),
    BitVec.extractLsb'_append_extractLsb'_eq_extractLsb' (by rfl)]
  exact BitVec.extractLsb'_eq_self

/-- Either order reassembles the same concatenation (R17). -/
@[simp] theorem des4At_ser4 (e : Endian) (v : Word) : des4At e (ser4 e v) 0 = v := by
  cases e
  case le => exact cat4_extractLsb' v
  case be => exact cat4_extractLsb' v

/-! ## `ser_4` undoes `des_4` -/

/-- The bytes of a word made of four bytes are these bytes. -/
theorem ser4_be_des4 (b0 b1 b2 b3 : Byte) :
    ser4 .be (des4 .be b0 b1 b2 b3) = [b0, b1, b2, b3] := by
  have h3 : (des4 .be b0 b1 b2 b3).extractLsb' 0 8 = b3 := BitVec.extractLsb'_append_eq_right
  have h2 : (des4 .be b0 b1 b2 b3).extractLsb' 8 8 = b2 :=
    (BitVec.extractLsb'_append_eq_of_le (by omega)).trans BitVec.extractLsb'_append_eq_right
  have h1 : (des4 .be b0 b1 b2 b3).extractLsb' 16 8 = b1 :=
    (BitVec.extractLsb'_append_eq_of_le (by omega)).trans <|
      (BitVec.extractLsb'_append_eq_of_le (by omega)).trans BitVec.extractLsb'_append_eq_right
  have h0 : (des4 .be b0 b1 b2 b3).extractLsb' 24 8 = b0 :=
    (BitVec.extractLsb'_append_eq_of_le (by omega)).trans <|
      (BitVec.extractLsb'_append_eq_of_le (by omega)).trans BitVec.extractLsb'_append_eq_left
  simp only [ser4, h0, h1, h2, h3]

/-- The mirrored order follows by reversing both the bytes and the list (R17). -/
@[simp] theorem ser4_des4 (e : Endian) (b0 b1 b2 b3 : Byte) :
    ser4 e (des4 e b0 b1 b2 b3) = [b0, b1, b2, b3] := by
  cases e
  case le => rw [ser4_le_eq_reverse, des4_le_eq_be, ser4_be_des4]; rfl
  case be => exact ser4_be_des4 b0 b1 b2 b3

/-! ## The 1-byte type -/

/-- A 1-byte type is written as its low byte (R93). -/
theorem serType_one (e : Endian) (v : Byte) : serType ⟨e, .one⟩ (v.setWidth 32) = [v] := by
  have low : (v.setWidth 32).extractLsb' 0 8 = v := by
    rw [BitVec.extractLsb'_setWidth_of_le (by omega), BitVec.extractLsb'_eq_self]
  simp only [serType, low]

/-- A 1-byte type is read zero-extended (R17, R65). -/
theorem desTypeAt_one (e : Endian) (v : Byte) : desTypeAt ⟨e, .one⟩ [v] = v.setWidth 32 := rfl

/-- Settles O12: the byte positions, and the two inverse laws for `N` = 4 and for the 1-byte type. -/
theorem serialisationByteOrder : Obligations.SerialisationByteOrder := by
  unfold Obligations.SerialisationByteOrder
  refine ⟨fun v i h => ⟨ser4_le_getElem? v h, ser4_be_getElem? v h⟩, ?_, ser4_des4, ?_⟩
  · exact fun e v => ⟨length_ser4 e v, des4At_ser4 e v⟩
  · exact fun e v => ⟨serType_one e v, desTypeAt_one e v⟩

end Sys2Proof.Machine
end

section
/-! PROOFS. What a transaction word asks for, and the rule of each kind of word: a command, a push, a host
write to a header register, a read of `DOUT`, and the transactions that change nothing of the block
(spec/30_encoding.md R92, R101, R102). -/

namespace Sys2Proof.Machine

/-! ## The kinds of transaction word -/

/-- The kinds of transaction word that differ in what they may change, each with the answers of all the
questions Sys2Proof/Safety.lean asks of a word. `plain` is every other word: it can change `rdata` alone. -/
inductive TxnKind (T : TxnWord) : Prop where
  | command (op : Byte) (hc : commandOf T = some op) (hp : pushedByte T = none)
      (hw : writesHeader T = false) (hr : readsDout T = false)
  | push (b : Byte) (hc : commandOf T = none) (hp : pushedByte T = some b)
      (hw : writesHeader T = false) (hr : readsDout T = false)
  | headerWrite (hc : commandOf T = none) (hp : pushedByte T = none)
      (hw : writesHeader T = true) (hr : readsDout T = false)
  | doutRead (hc : commandOf T = none) (hp : pushedByte T = none)
      (hw : writesHeader T = false) (hr : readsDout T = true)
  | plain (hc : commandOf T = none) (hp : pushedByte T = none)
      (hw : writesHeader T = false) (hr : readsDout T = false)

theorem txnKind_of_write {T : TxnWord} (hwe : weField T = true) : TxnKind T := by
  have hr : readsDout T = false := by simp [readsDout, hwe]
  by_cases h4 : indexField T = 4#6
  · exact .command (lowByte (wdataField T)) (by simp [commandOf, hwe, h4])
      (by simp [pushedByte, h4]) (by simp [writesHeader, h4]) hr
  have hc : commandOf T = none := by simp [commandOf, h4]
  by_cases h6 : indexField T = 6#6
  · exact .push (lowByte (wdataField T)) hc (by simp [pushedByte, hwe, h6])
      (by simp [writesHeader, h6]) hr
  have hp : pushedByte T = none := by simp [pushedByte, h6]
  cases hw : writesHeader T
  · exact .plain hc hp hw hr
  · exact .headerWrite hc hp hw hr

theorem txnKind_of_read {T : TxnWord} (hwe : weField T = false) : TxnKind T := by
  have hc : commandOf T = none := by simp [commandOf, hwe]
  have hp : pushedByte T = none := by simp [pushedByte, hwe]
  have hw : writesHeader T = false := by simp [writesHeader, hwe]
  cases hr : readsDout T
  · exact .plain hc hp hw hr
  · exact .doutRead hc hp hw hr

/-- Every word is of one of the kinds. -/
theorem txnKind (T : TxnWord) : TxnKind T := by
  cases hwe : weField T
  · exact txnKind_of_read hwe
  · exact txnKind_of_write hwe

/-! ## The rule of each kind -/

theorem stepWord_of_weField {T : TxnWord} (hwe : weField T = true) (s : State) :
    stepWord T s = exec (decodeWrite s.mode (indexField T) (wdataField T)) s := by
  simp [stepWord, decode, hwe]

theorem stepWord_of_not_weField {T : TxnWord} (hwe : weField T = false) (s : State) :
    stepWord T s = exec (decodeRead (indexField T) (wdataField T)) s := by
  simp [stepWord, decode, hwe]

theorem commandOf_eq_some {T : TxnWord} {op : Byte} : commandOf T = some op ↔
    (weField T = true ∧ indexField T = 4#6) ∧ lowByte (wdataField T) = op := by
  simp [commandOf]

theorem pushedByte_eq_some {T : TxnWord} {b : Byte} : pushedByte T = some b ↔
    (weField T = true ∧ indexField T = 6#6) ∧ lowByte (wdataField T) = b := by
  simp [pushedByte]

theorem readsDout_iff {T : TxnWord} :
    readsDout T = true ↔ weField T = false ∧ indexField T = 7#6 := by
  simp [readsDout]

theorem writesHeader_iff {T : TxnWord} :
    writesHeader T = true ↔ weField T = true ∧ (indexField T).toNat < 4 := by
  simp [writesHeader]

theorem stepWord_command {T : TxnWord} {op : Byte} (h : commandOf T = some op) (s : State) :
    stepWord T s = exec (decodeCommand (highBits (wdataField T)) op) s := by
  obtain ⟨⟨hwe, hi⟩, rfl⟩ := commandOf_eq_some.mp h
  rw [stepWord_of_weField hwe, hi]
  rfl

/-- A `DIN` write is a push of its byte, whatever row the mode selects (R102). -/
theorem stepWord_pushedByte {T : TxnWord} {b : Byte} (h : pushedByte T = some b) (s : State) :
    stepWord T s = pushByte b s := by
  obtain ⟨⟨hwe, hi⟩, rfl⟩ := pushedByte_eq_some.mp h
  rw [stepWord_of_weField hwe, hi]
  cases s.mode <;> rfl

/-- A host write to a header register changes some header register and clears `RXHDR`, unless the header
is locked (R156 to R159). -/
theorem stepWord_writesHeader {T : TxnWord} (h : writesHeader T = true) (s : State) :
    ∃ H : Header, stepWord T s = unlessLocked (hostWrote (setHeader H s)) s := by
  obtain ⟨hwe, hi⟩ := writesHeader_iff.mp h
  rw [stepWord_of_weField hwe]
  generalize wdataField T = w
  unfold decodeWrite
  interval_cases (indexField T).toNat
  · exact ⟨{ s.header with typ := truncType s.params w }, rfl⟩
  · exact ⟨{ s.header with seq := w }, rfl⟩
  · exact ⟨{ s.header with len := w }, rfl⟩
  · exact ⟨{ s.header with csum := w }, rfl⟩

theorem stepWord_readsDout {T : TxnWord} (h : readsDout T = true) (s : State) :
    stepWord T s = execPop s := by
  obtain ⟨hwe, hi⟩ := readsDout_iff.mp h
  rw [stepWord_of_not_weField hwe, hi]
  rfl

/-- A write to an index that is not a header register, `CMD` or `DIN` is ignored (R104, R227, R228). -/
theorem exec_decodeWrite_ignored (m : Mode) {a : RegIndex} (w : Word) (s : State)
    (h3 : 3 < a.toNat) (h4 : a.toNat ≠ 4) (h6 : a.toNat ≠ 6) :
    exec (decodeWrite m a w) s = finishWrite s := by
  unfold decodeWrite
  split
  case h_1 | h_2 | h_3 | h_4 | h_5 | h_7 => omega
  all_goals rfl

/-- A read of an index other than 7 only returns a value (R67). -/
theorem exec_decodeRead_pure {a : RegIndex} (w : Word) (s : State) (h7 : a.toNat ≠ 7) :
    ∃ v : Word, exec (decodeRead a w) s = finishRead v s := by
  unfold decodeRead
  split
  case h_8 => omega
  all_goals exact ⟨_, rfl⟩

/-- Words of the kind `plain` change `rdata` alone. -/
theorem stepWord_plain {T : TxnWord} (hc : commandOf T = none) (hp : pushedByte T = none)
    (hw : writesHeader T = false) (hr : readsDout T = false) (s : State) :
    ∃ v : Word, stepWord T s = finishRead v s := by
  cases hwe : weField T
  · rw [stepWord_of_not_weField hwe]
    have h7 : indexField T ≠ 7#6 := by simpa [readsDout, hwe] using hr
    exact exec_decodeRead_pure _ s (by bv_omega)
  · rw [stepWord_of_weField hwe]
    have h4 : indexField T ≠ 4#6 := by simpa [commandOf, hwe] using hc
    have h6 : indexField T ≠ 6#6 := by simpa [pushedByte, hwe] using hp
    have h3 : 4 ≤ (indexField T).toNat := by simpa [writesHeader, hwe] using hw
    exact ⟨0#32, exec_decodeWrite_ignored _ _ s h3 (by bv_omega) (by bv_omega)⟩

/-! ## Commands -/

/-- A command code is one of the nine defined ones or reserved (R101). -/
theorem commandCode_cases (op : Byte) : op = 0#8 ∨ op = 1#8 ∨ op = 2#8 ∨ op = 3#8 ∨ op = 4#8 ∨
    op = 5#8 ∨ op = 6#8 ∨ op = 7#8 ∨ op = 8#8 ∨ 9 ≤ op.toNat := by
  bv_omega

theorem decodeCommand_reserved (hi : BitVec 24) {op : Byte} (h : 9 ≤ op.toNat) :
    decodeCommand hi op = .cmdRsvd hi op := by
  unfold decodeCommand
  split
  case h_10 => rfl
  all_goals omega

/-- What a `CMD` write does, by its code (R101). -/
theorem stepWord_command_cases {T : TxnWord} {op : Byte} (h : commandOf T = some op) (s : State) :
    (op = 0#8 ∧ stepWord T s = execNop s) ∨ (op = 1#8 ∧ stepWord T s = execCrcStart s) ∨
    (op = 2#8 ∧ stepWord T s = execEnc s) ∨ (op = 3#8 ∧ stepWord T s = execEnc0 s) ∨
    (op = 4#8 ∧ stepWord T s = execRxBegin s) ∨ (op = 5#8 ∧ stepWord T s = execRxEnd s) ∨
    (op = 6#8 ∧ stepWord T s = execTxBegin s) ∨ (op = 7#8 ∧ stepWord T s = execTxEnd s) ∨
    (op = 8#8 ∧ stepWord T s = execClr s) ∨ (9 ≤ op.toNat ∧ stepWord T s = execCmdRsvd s) := by
  rw [stepWord_command h]
  rcases commandCode_cases op with rfl | rfl | rfl | rfl | rfl | rfl | rfl | rfl | rfl | hop
  case inr.inr.inr.inr.inr.inr.inr.inr.inr =>
    rw [decodeCommand_reserved _ hop]
    simp [hop, exec]
  all_goals simp [decodeCommand, exec]

theorem ne_of_nine_le_toNat {op : Byte} (h : 9 ≤ op.toNat) (k : Byte) (hk : k.toNat < 9) :
    op ≠ k := by
  rintro rfl
  omega

/-! ## The operations a mode or a count guards -/

theorem headerLocked_eq_false_iff (m : Mode) :
    headerLocked m = false ↔ m = .idle ∨ m = .raw := by
  cases m <;> simp [headerLocked]

theorem rxOpen_iff (m : Mode) : rxOpen m = true ↔ m = .rxh ∨ m = .rxp := by
  cases m <;> simp [rxOpen]

theorem unlessLocked_eq (a s : State) : unlessLocked a s =
    finishWrite (if headerLocked s.mode then raiseMisuse .seq s else a) := by
  unfold unlessLocked
  split <;> rfl

/-- `RX_END` (R184). -/
theorem execRxEnd_eq (s : State) : execRxEnd s = finishWrite
    (if rxOpen s.mode then closeFlow (setVerdict (rxVerdict s) s) else raiseMisuse .seq s) := by
  unfold execRxEnd
  split <;> rfl

/-- `TX_END` (R203). -/
theorem execTxEnd_eq (s : State) : execTxEnd s = finishWrite
    (if s.mode = .txp then
      closeFlow (if payloadMissing s then { s with lenerr := true }
        else sealHeader { s with lenerr := false })
    else raiseMisuse .seq s) := by
  unfold execTxEnd
  split
  · split <;> rfl
  · rfl

/-- A payload byte, inside or outside the covered span (R183, R202). -/
theorem pushByte_payload {s : State} (h : s.mode = .rxp ∨ s.mode = .txp) (b : Byte) :
    pushByte b s = finishWrite
      (countByte (if payloadMissing s then absorb b s else { s with extra := true })) := by
  rcases h with h | h <;> simp [pushByte, h, pushInRxp, pushInTxp, payloadByte]

theorem execPop_of_lt {s : State} (h : s.rptr < s.hcnt) : execPop s =
    finishRead (zextByte (byteAt s.hbuf s.rptr.toNat)) { s with rptr := s.rptr + 1#5 } :=
  if_pos h

theorem execPop_of_not_lt {s : State} (h : ¬s.rptr < s.hcnt) :
    execPop s = finishRead 0#32 (raiseMisuse .underrun s) :=
  if_neg h

end Sys2Proof.Machine
end

section
/-! PROOFS. The reset state of every build: what the computed registers show there (spec/10_state.md R50,
R37 to R39, R43) and that `CLR` reaches it (spec/44_control.md R221). -/

namespace Sys2Proof.Machine

/-- After reset `STATUS` shows `TYPE_KNOWN` alone: type 0 is `START` (R38, R50). -/
theorem statusWord_resetWith (p : Params) : statusWord (State.resetWith p) = 0x00000080#32 := by
  have hknown : typeKnown (State.resetWith p) = true := by simp [typeKnown_iff]
  have hctrl : ctrlLenNz (State.resetWith p) = false := by simp [ctrlLenNz]
  simp [statusWord, hknown, hctrl, bitAt, modeCode]

/-- After reset the checksum read is that of no bytes, 0 (R137, R50). -/
theorem crcOut_resetWith (p : Params) : crcOut (State.resetWith p) = 0x00000000#32 := by
  simp [crcOut, crcXorOut]

/-- `CONFIG` in each of the four builds (R39). -/
theorem configWord_eq (p : Params) : configWord p =
    match p.endian, p.typeBytes with
    | .le, .one => 0x00000D00#32
    | .le, .four => 0x00001002#32
    | .be, .one => 0x00000D01#32
    | .be, .four => 0x00001003#32 := by
  obtain ⟨e, n⟩ := p
  cases e <;> cases n <;> rfl

/-- After reset there is no byte to pop (R166, R50). -/
theorem execPop_resetWith (p : Params) : execPop (State.resetWith p) =
    .next { State.resetWith p with rdata := 0#32, underrun := true } := by
  rw [execPop_of_not_lt (by simp)]
  rfl

theorem exec_clr (hi : BitVec 24) (s : State) :
    exec (.clr hi) s = .next { State.resetWith s.params with inbox := s.inbox } := rfl

/-- Settles O6: the stored fields are those of `State.resetWith`; the computed registers have the lemmas
above. -/
theorem resetStateAndItsReads : Obligations.ResetStateAndItsReads := by
  unfold Obligations.ResetStateAndItsReads
  refine ⟨?_, exec_clr⟩
  rintro p r rfl
  refine ⟨by simp, fun w => ⟨rfl, rfl, rfl, rfl, rfl, rfl, rfl, rfl, ?_, ?_, rfl, ?_, ?_⟩⟩
  · change finishRead (statusWord (State.resetWith p)) _ = _
    rw [statusWord_resetWith]
    rfl
  · change finishRead (crcOut (State.resetWith p)) _ = _
    rw [crcOut_resetWith]
    rfl
  · change finishRead (configWord p) _ = _
    rw [configWord_eq]
    rfl
  · exact execPop_resetWith p

end Sys2Proof.Machine
end

section
/-! PROOFS. The sequencing table of spec/10_state.md R33, a lemma for each of its parts. -/

namespace Sys2Proof.Machine

/-- `t` has the sequencing state the table of R33 gives for transaction `T` from `s`: the statement of
`Obligations.SequencingStateFollowsTheTable` for one transaction. -/
def FollowsTable (s : State) (T : TxnWord) (t : State) : Prop :=
  (t.mode, t.hcnt, t.rptr, t.pcnt) = sequencingTable s T

/-- Completing a write leaves the sequencing state alone. -/
theorem followsTable_of_finishWrite {s t u : State} {T : TxnWord} (h : finishWrite u = .next t)
    (hu : FollowsTable s T u) : FollowsTable s T t := by
  obtain rfl := finishWrite_eq_next.mp h
  exact hu

/-- The rows of `ENC` and `ENC0` (R164, R165). -/
theorem followsTable_encode {T : TxnWord} {s t : State} (L : List Byte)
    (hc : commandOf T = some 2#8 ∨ commandOf T = some 3#8)
    (h : unlessLocked (loadHbuf L s) s = .next t) : FollowsTable s T t := by
  cases hl : headerLocked s.mode
  · rw [unlessLocked_unlocked hl] at h
    have hm : s.mode = .idle ∨ s.mode = .raw := (headerLocked_eq_false_iff _).mp hl
    refine followsTable_of_finishWrite h ?_
    rcases hc with hc | hc <;> simp [FollowsTable, sequencingTable, hc, hm]
  · rw [unlessLocked_locked hl] at h
    have hm : ¬(s.mode = .idle ∨ s.mode = .raw) := by simp [← headerLocked_eq_false_iff, hl]
    refine followsTable_of_finishWrite h ?_
    rcases hc with hc | hc <;> simp [FollowsTable, sequencingTable, hc, hm]

/-- The row of `RX_END` (R184). -/
theorem followsTable_rxEnd {T : TxnWord} {s t : State} (hc : commandOf T = some 5#8)
    (h : execRxEnd s = .next t) : FollowsTable s T t := by
  rw [execRxEnd_eq] at h
  refine followsTable_of_finishWrite h ?_
  by_cases hm : s.mode = .rxh ∨ s.mode = .rxp <;>
    simp [FollowsTable, sequencingTable, hc, rxOpen_iff, hm]

/-- The row of `TX_END`: with and without the whole payload (R203). -/
theorem followsTable_txEnd {T : TxnWord} {s t : State} (hc : commandOf T = some 7#8)
    (h : execTxEnd s = .next t) : FollowsTable s T t := by
  rw [execTxEnd_eq] at h
  refine followsTable_of_finishWrite h ?_
  by_cases hm : s.mode = .txp
  · cases hp : payloadMissing s <;>
      simp [FollowsTable, sequencingTable, hc, hm, hp, sealHeader]
  · simp [FollowsTable, sequencingTable, hc, hm]

/-- The rows of the commands. -/
theorem followsTable_command {T : TxnWord} {op : Byte} {s t : State} (hc : commandOf T = some op)
    (h : stepWord T s = .next t) : FollowsTable s T t := by
  rcases stepWord_command_cases hc s with ⟨rfl, e⟩ | ⟨rfl, e⟩ | ⟨rfl, e⟩ | ⟨rfl, e⟩ | ⟨rfl, e⟩ |
    ⟨rfl, e⟩ | ⟨rfl, e⟩ | ⟨rfl, e⟩ | ⟨rfl, e⟩ | ⟨hop, e⟩ <;> rw [e] at h
  · exact followsTable_of_finishWrite h (by simp [FollowsTable, sequencingTable, hc])
  · exact followsTable_of_finishWrite h (by simp [FollowsTable, sequencingTable, hc])
  · exact followsTable_encode _ (.inl hc) h
  · exact followsTable_encode _ (.inr hc) h
  · exact followsTable_of_finishWrite h (by simp [FollowsTable, sequencingTable, hc])
  · exact followsTable_rxEnd hc h
  · exact followsTable_of_finishWrite h (by simp [FollowsTable, sequencingTable, hc])
  · exact followsTable_txEnd hc h
  · exact followsTable_of_finishWrite h (by simp [FollowsTable, sequencingTable, hc])
  · exact followsTable_of_finishWrite h
      (by simp [FollowsTable, sequencingTable, hc, ne_of_nine_le_toNat hop])

/-- The rows of a push, by mode (R223, R136, R182, R183, R202). -/
theorem followsTable_push {T : TxnWord} {b : Byte} {s t : State} (hc : commandOf T = none)
    (hp : pushedByte T = some b) (h : stepWord T s = .next t) : FollowsTable s T t := by
  rw [stepWord_pushedByte hp] at h
  cases hm : s.mode
  case idle =>
    rw [pushByte_idle hm] at h
    exact followsTable_of_finishWrite h (by simp [FollowsTable, sequencingTable, hc, hp, hm])
  case raw =>
    rw [pushByte_raw hm] at h
    exact followsTable_of_finishWrite h (by simp [FollowsTable, sequencingTable, hc, hp, hm])
  case rxh =>
    by_cases hn : s.hcnt.toNat + 1 = s.params.hdrSize
    · rw [pushByte_rxh_last hm hn] at h
      exact followsTable_of_finishWrite h (by simp [FollowsTable, sequencingTable, hc, hp, hm, hn])
    · rw [pushByte_rxh hm hn] at h
      exact followsTable_of_finishWrite h (by simp [FollowsTable, sequencingTable, hc, hp, hm, hn])
  case rxp | txp =>
    rw [pushByte_payload (by simp [hm])] at h
    refine followsTable_of_finishWrite h ?_
    cases payloadMissing s <;> simp [FollowsTable, sequencingTable, hc, hp, hm]

/-- The row of a host write to a header register: nothing advances, locked or not (R156 to R159). -/
theorem followsTable_headerWrite {T : TxnWord} {s t : State} (hc : commandOf T = none)
    (hp : pushedByte T = none) (hw : writesHeader T = true) (hr : readsDout T = false)
    (h : stepWord T s = .next t) : FollowsTable s T t := by
  obtain ⟨H, e⟩ := stepWord_writesHeader hw s
  rw [e, unlessLocked_eq] at h
  refine followsTable_of_finishWrite h ?_
  cases headerLocked s.mode <;> simp [FollowsTable, sequencingTable, hc, hp, hr]

/-- The row of `POP`: a byte is left or not (R166). -/
theorem followsTable_pop {T : TxnWord} {s t : State} (hc : commandOf T = none)
    (hp : pushedByte T = none) (hr : readsDout T = true) (h : stepWord T s = .next t) :
    FollowsTable s T t := by
  rw [stepWord_readsDout hr] at h
  by_cases hlt : s.rptr < s.hcnt
  · rw [execPop_of_lt hlt] at h
    obtain rfl := finishRead_eq_next.mp h
    simp [FollowsTable, sequencingTable, hc, hp, hr, hlt]
  · rw [execPop_of_not_lt hlt] at h
    obtain rfl := finishRead_eq_next.mp h
    simp [FollowsTable, sequencingTable, hc, hp, hlt]

/-- Settles O51, by the kind of the transaction word. -/
theorem sequencingStateFollowsTheTable : Obligations.SequencingStateFollowsTheTable := by
  unfold Obligations.SequencingStateFollowsTheTable
  intro T s t h
  change FollowsTable s T t
  cases txnKind T
  case command op hc _ _ _ => exact followsTable_command hc h
  case push b hc hp _ _ => exact followsTable_push hc hp h
  case headerWrite hc hp hw hr => exact followsTable_headerWrite hc hp hw hr h
  case doutRead hc hp _ hr => exact followsTable_pop hc hp hr h
  case plain hc hp hw hr =>
    obtain ⟨v, e⟩ := stepWord_plain hc hp hw hr s
    obtain rfl := finishRead_eq_next.mp (e ▸ h)
    simp [FollowsTable, sequencingTable, hc, hp, hr]

end Sys2Proof.Machine
end

section
/-! PROOFS. The sticky flags (spec/10_state.md R36): their three causes, that one transaction has at most one
of them, and that nothing else but `CLR` changes a sticky flag. -/

namespace Sys2Proof.Machine

/-! ## The causes -/

/-- The cause of `UNDERRUN`: a read of `DOUT` with no byte left (R166). -/
def underruns (s : State) (T : TxnWord) : Bool := readsDout T && !decide (s.rptr < s.hcnt)

/-- In a state of R51 "no byte left" is `RPTR = HCNT`. -/
theorem underruns_eq_of_inv {s : State} (hinv : s.Inv) (T : TxnWord) :
    underruns s T = (readsDout T && s.rptr == s.hcnt) := by
  obtain ⟨⟨hle, _⟩, _⟩ := hinv
  have : ¬s.rptr < s.hcnt ↔ s.rptr = s.hcnt := by bv_omega
  simp [underruns, ← decide_not, this, Bool.beq_eq_decide_eq]

/-! The table of R302, by the kind of the transaction word. -/

theorem notRxOpen_modes (m : Mode) : (m == .idle || m == .raw || m == .txp) = !rxOpen m := by
  cases m <;> rfl

theorem notTxp_modes (m : Mode) :
    (m == .idle || m == .raw || m == .rxh || m == .rxp) = (m != .txp) := by
  cases m <;> rfl

theorem headerLocked_modes (m : Mode) :
    (m == .rxh || m == .rxp || m == .txp) = headerLocked m := by
  cases m <;> rfl

/-- `RX_END` outside the RX flow, `TX_END` outside the TX flow, `ENC` and `ENC0` under the header lock. -/
theorem seqMisuse_command {T : TxnWord} {op : Byte} (hc : commandOf T = some op)
    (hp : pushedByte T = none) (hw : writesHeader T = false) (m : Mode) :
    seqMisuse m T = ((op == 5#8 && !rxOpen m) || (op == 7#8 && m != .txp) ||
      ((op == 2#8 || op == 3#8) && headerLocked m)) := by
  simp [seqMisuse, encodes, hc, hp, hw, notRxOpen_modes, notTxp_modes, headerLocked_modes]

theorem seqMisuse_push {T : TxnWord} {b : Byte} (hc : commandOf T = none)
    (hp : pushedByte T = some b) (hw : writesHeader T = false) (m : Mode) :
    seqMisuse m T = (m == .idle) := by
  simp [seqMisuse, encodes, hc, hp, hw]

theorem seqMisuse_headerWrite {T : TxnWord} (hc : commandOf T = none) (hp : pushedByte T = none)
    (hw : writesHeader T = true) (m : Mode) : seqMisuse m T = headerLocked m := by
  simp [seqMisuse, encodes, hc, hp, hw, headerLocked_modes]

/-- No other write and no read is a sequence misuse. -/
theorem seqMisuse_other {T : TxnWord} (hc : commandOf T = none) (hp : pushedByte T = none)
    (hw : writesHeader T = false) (m : Mode) : seqMisuse m T = false := by
  simp [seqMisuse, encodes, hc, hp, hw]

/-! ## What a transaction can do to the sticky flags -/

/-- `t` has the sticky flags of `s`. -/
def SameSticky (s t : State) : Prop :=
  t.errCmd = s.errCmd ∧ t.errSeq = s.errSeq ∧ t.underrun = s.underrun

/-- Outside IDLE a push leaves the sticky flags (R136, R182, R183, R202). -/
theorem pushByte_sticky (b : Byte) (s : State) : ∃ u, pushByte b s = finishWrite u ∧
    (s.mode = .idle → u = raiseMisuse .seq s) ∧ (s.mode ≠ .idle → SameSticky s u) := by
  cases hm : s.mode
  case idle => exact ⟨_, pushByte_idle hm b, fun _ => rfl, by simp⟩
  case raw => exact ⟨_, pushByte_raw hm b, by simp, fun _ => ⟨rfl, rfl, rfl⟩⟩
  case rxh =>
    by_cases hn : s.hcnt.toNat + 1 = s.params.hdrSize
    · exact ⟨_, pushByte_rxh_last hm hn b, by simp, fun _ => ⟨rfl, rfl, rfl⟩⟩
    · exact ⟨_, pushByte_rxh hm hn b, by simp, fun _ => ⟨rfl, rfl, rfl⟩⟩
  case rxp | txp =>
    refine ⟨_, pushByte_payload (by simp [hm]) b, by simp, fun _ => ?_⟩
    cases payloadMissing s <;> exact ⟨rfl, rfl, rfl⟩

/-- What transaction `T` from `s` to `t` did to the sticky flags: one of the three misuses, which changed
nothing else; `CLR`; or nothing. Each case answers which of the causes `T` has. -/
inductive StickyOutcome (s : State) (T : TxnWord) (t : State) : Prop where
  | reserved (hk : isClr T = false) (hr : reservedCommand T = true)
      (hq : seqMisuse s.mode T = false) (hu : underruns s T = false)
      (ht : t = { s with errCmd := true, rdata := 0#32 })
  | sequence (hk : isClr T = false) (hr : reservedCommand T = false)
      (hq : seqMisuse s.mode T = true) (hu : underruns s T = false)
      (ht : t = { s with errSeq := true, rdata := 0#32 })
  | underrun (hk : isClr T = false) (hr : reservedCommand T = false)
      (hq : seqMisuse s.mode T = false) (hu : underruns s T = true)
      (ht : t = { s with underrun := true, rdata := 0#32 })
  | clear (hk : isClr T = true) (hr : reservedCommand T = false)
      (hq : seqMisuse s.mode T = false) (hu : underruns s T = false) (ht : t = resetBlock s)
  | unchanged (hk : isClr T = false) (hr : reservedCommand T = false)
      (hq : seqMisuse s.mode T = false) (hu : underruns s T = false) (ht : SameSticky s t)

/-- A completed write that raises `ERR_SEQ` when `T` is a sequence misuse, and otherwise leaves the sticky
flags. -/
theorem stickyOutcome_of_finishWrite {s t u : State} {T : TxnWord} (hk : isClr T = false)
    (hr : reservedCommand T = false) (hu : underruns s T = false) (h : finishWrite u = .next t)
    (refused : seqMisuse s.mode T = true → u = raiseMisuse .seq s)
    (accepted : seqMisuse s.mode T = false → SameSticky s u) : StickyOutcome s T t := by
  obtain rfl := finishWrite_eq_next.mp h
  cases hq : seqMisuse s.mode T
  · exact .unchanged hk hr hq hu (accepted hq)
  · rw [refused hq]
    exact .sequence hk hr hq hu rfl

/-- A defined command other than `CLR`, of which only `ENC`, `ENC0`, `RX_END`, `TX_END` can be refused. -/
theorem stickyOutcome_definedCommand {s t u : State} {T : TxnWord} {op : Byte}
    (hc : commandOf T = some op) (h8 : op.toNat < 8) (hu : underruns s T = false)
    (h : finishWrite u = .next t)
    (refused : seqMisuse s.mode T = true → u = raiseMisuse .seq s)
    (accepted : seqMisuse s.mode T = false → SameSticky s u) : StickyOutcome s T t := by
  have hne : op ≠ 8#8 := by bv_omega
  have h9 : op.toNat < 9 := by omega
  exact stickyOutcome_of_finishWrite (by simp [isClr, hc, hne]) (by simp [reservedCommand, hc, h9])
    hu h refused accepted

theorem stickyOutcome_command {T : TxnWord} {op : Byte} {s t : State} (hc : commandOf T = some op)
    (hp : pushedByte T = none) (hw : writesHeader T = false) (hr : readsDout T = false)
    (h : stepWord T s = .next t) : StickyOutcome s T t := by
  have hu : underruns s T = false := by simp [underruns, hr]
  have hq := seqMisuse_command hc hp hw s.mode
  rcases stepWord_command_cases hc s with ⟨rfl, e⟩ | ⟨rfl, e⟩ | ⟨rfl, e⟩ | ⟨rfl, e⟩ | ⟨rfl, e⟩ |
    ⟨rfl, e⟩ | ⟨rfl, e⟩ | ⟨rfl, e⟩ | ⟨rfl, e⟩ | ⟨hop, e⟩ <;> rw [e] at h
  · -- `NOP`
    exact stickyOutcome_definedCommand hc (by decide) hu h (by simp [hq]) fun _ => ⟨rfl, rfl, rfl⟩
  · -- `CRC_START`
    exact stickyOutcome_definedCommand hc (by decide) hu h (by simp [hq]) fun _ => ⟨rfl, rfl, rfl⟩
  · -- `ENC`
    rw [execEnc, unlessLocked_eq] at h
    exact stickyOutcome_definedCommand hc (by decide) hu h (by simp +contextual [hq])
      (by simp +contextual [hq, SameSticky])
  · -- `ENC0`
    rw [execEnc0, unlessLocked_eq] at h
    exact stickyOutcome_definedCommand hc (by decide) hu h (by simp +contextual [hq])
      (by simp +contextual [hq, SameSticky])
  · -- `RX_BEGIN`
    exact stickyOutcome_definedCommand hc (by decide) hu h (by simp [hq]) fun _ => ⟨rfl, rfl, rfl⟩
  · -- `RX_END`
    rw [execRxEnd_eq] at h
    exact stickyOutcome_definedCommand hc (by decide) hu h (by simp +contextual [hq])
      (by simp +contextual [hq, SameSticky])
  · -- `TX_BEGIN`
    exact stickyOutcome_definedCommand hc (by decide) hu h (by simp [hq]) fun _ => ⟨rfl, rfl, rfl⟩
  · -- `TX_END`
    rw [execTxEnd_eq] at h
    exact stickyOutcome_definedCommand hc (by decide) hu h (by simp +contextual [hq])
      (by cases payloadMissing s <;> simp +contextual [hq, SameSticky, sealHeader])
  · -- `CLR`
    obtain rfl := finishWrite_eq_next.mp h
    exact .clear (by simp [isClr, hc]) (by simp [reservedCommand, hc]) (by simp [hq]) hu rfl
  · -- a reserved code
    obtain rfl := finishWrite_eq_next.mp h
    have hne := ne_of_nine_le_toNat hop
    exact .reserved (by simp [isClr, hc, hne]) (by simp [reservedCommand, hc, hop])
      (by simp [hq, hne]) hu rfl

theorem stickyOutcome_push {T : TxnWord} {b : Byte} {s t : State} (hc : commandOf T = none)
    (hp : pushedByte T = some b) (hw : writesHeader T = false) (hr : readsDout T = false)
    (h : stepWord T s = .next t) : StickyOutcome s T t := by
  have hq := seqMisuse_push hc hp hw s.mode
  obtain ⟨u, hu, hidle, hopen⟩ := pushByte_sticky b s
  rw [stepWord_pushedByte hp, hu] at h
  exact stickyOutcome_of_finishWrite (by simp [isClr, hc]) (by simp [reservedCommand, hc])
    (by simp [underruns, hr]) h (by simpa [hq] using hidle) (by simpa [hq] using hopen)

theorem stickyOutcome_headerWrite {T : TxnWord} {s t : State} (hc : commandOf T = none)
    (hp : pushedByte T = none) (hw : writesHeader T = true) (hr : readsDout T = false)
    (h : stepWord T s = .next t) : StickyOutcome s T t := by
  have hq := seqMisuse_headerWrite hc hp hw s.mode
  obtain ⟨H, e⟩ := stepWord_writesHeader hw s
  rw [e, unlessLocked_eq] at h
  exact stickyOutcome_of_finishWrite (by simp [isClr, hc]) (by simp [reservedCommand, hc])
    (by simp [underruns, hr]) h (by simp +contextual [hq]) (by simp +contextual [hq, SameSticky])

theorem stickyOutcome_pop {T : TxnWord} {s t : State} (hc : commandOf T = none)
    (hp : pushedByte T = none) (hw : writesHeader T = false) (hr : readsDout T = true)
    (h : stepWord T s = .next t) : StickyOutcome s T t := by
  have hk : isClr T = false := by simp [isClr, hc]
  have hres : reservedCommand T = false := by simp [reservedCommand, hc]
  have hq := seqMisuse_other hc hp hw s.mode
  rw [stepWord_readsDout hr] at h
  by_cases hlt : s.rptr < s.hcnt
  · rw [execPop_of_lt hlt] at h
    obtain rfl := finishRead_eq_next.mp h
    exact .unchanged hk hres hq (by simp [underruns, hlt]) ⟨rfl, rfl, rfl⟩
  · rw [execPop_of_not_lt hlt] at h
    obtain rfl := finishRead_eq_next.mp h
    exact .underrun hk hres hq (by simp [underruns, hr, hlt]) rfl

/-- Every transaction, by the kind of its word. -/
theorem stickyOutcome {T : TxnWord} {s t : State} (h : stepWord T s = .next t) :
    StickyOutcome s T t := by
  cases txnKind T
  case command op hc hp hw hr => exact stickyOutcome_command hc hp hw hr h
  case push b hc hp hw hr => exact stickyOutcome_push hc hp hw hr h
  case headerWrite hc hp hw hr => exact stickyOutcome_headerWrite hc hp hw hr h
  case doutRead hc hp hw hr => exact stickyOutcome_pop hc hp hw hr h
  case plain hc hp hw hr =>
    obtain ⟨v, e⟩ := stepWord_plain hc hp hw hr s
    obtain rfl := finishRead_eq_next.mp (e ▸ h)
    exact .unchanged (by simp [isClr, hc]) (by simp [reservedCommand, hc])
      (seqMisuse_other hc hp hw s.mode) (by simp [underruns, hr]) ⟨rfl, rfl, rfl⟩

/-- Settles O48, from what one transaction can do to the sticky flags. -/
theorem stickyFlagsOnlyClearedByClr : Obligations.StickyFlagsOnlyClearedByClr := by
  unfold Obligations.StickyFlagsOnlyClearedByClr
  refine ⟨fun T s t hinv h => ?_, fun p => ⟨rfl, rfl, rfl⟩⟩
  rw [← underruns_eq_of_inv hinv]
  cases stickyOutcome h
  case reserved hk hr hq hu ht => simp [hk, hr, hq, hu, ht]
  case sequence hk hr hq hu ht => simp [hk, hr, hq, hu, ht]
  case underrun hk hr hq hu ht => simp [hk, hr, hq, hu, ht]
  case clear hk hr hq hu ht => simp [hk, hr, hq, hu, ht]
  case unchanged hk hr hq hu ht =>
    obtain ⟨hcmd, hseq, hund⟩ := ht
    simp [hk, hr, hq, hu, hcmd, hseq, hund]

end Sys2Proof.Machine
end

section
/-! PROOFS. The match and mask table of R102 against the decoder: a row reads a word field by field, so it can
read only `we`, `a`, `wdata[7:0]` and `MODE`; the rows of commands are told apart by the code, all others by
`we`, `a` and `MODE`. -/

namespace Sys2Proof.Machine

/-! ## The fields of a masked word -/

theorem weField_and (T U : TxnWord) : weField (T &&& U) = (weField T && weField U) :=
  BitVec.getLsbD_and

theorem indexField_and (T U : TxnWord) : indexField (T &&& U) = indexField T &&& indexField U :=
  BitVec.extractLsb'_and

theorem wdataField_and (T U : TxnWord) : wdataField (T &&& U) = wdataField T &&& wdataField U :=
  BitVec.extractLsb'_and

/-- Match and mask, field by field (R102). -/
theorem and_eq_iff_fields {T U P : TxnWord} : T &&& U = P ↔
    (weField T && weField U) = weField P ∧ indexField T &&& indexField U = indexField P ∧
      wdataField T &&& wdataField U = wdataField P := by
  rw [← weField_and, ← indexField_and, ← wdataField_and]
  exact ⟨by rintro rfl; exact ⟨rfl, rfl, rfl⟩, fun ⟨hwe, hi, hw⟩ => txnWord_ext hwe hi hw⟩

theorem match_of_covers {r : TxnRow} {m : Mode} {T : TxnWord} (h : r.covers m T = true) :
    T &&& r.mask = r.pattern := by
  simp only [TxnRow.covers, Bool.and_eq_true, beq_iff_eq] at h
  obtain ⟨⟨hmatch, -⟩, -⟩ := h
  exact hmatch

/-! ## The rows of a list that cover a word -/

/-- The mnemonics of the rows that cover `T` when `MODE = m`. -/
def coveringNames (rows : List TxnRow) (m : Mode) (T : TxnWord) : List String :=
  (rows.filter fun r => r.covers m T).map TxnRow.mnemonic

theorem coveringNames_append (rows rows' : List TxnRow) (m : Mode) (T : TxnWord) :
    coveringNames (rows ++ rows') m T = coveringNames rows m T ++ coveringNames rows' m T := by
  simp [coveringNames]

theorem coveringNames_cons (r : TxnRow) (rows : List TxnRow) (m : Mode) (T : TxnWord) :
    coveringNames (r :: rows) m T =
      if r.covers m T then r.mnemonic :: coveringNames rows m T else coveringNames rows m T := by
  cases h : r.covers m T <;> simp [coveringNames, h]

/-! ## Rows that are told apart by `we`, `a` and `MODE` -/

/-- The rows of every transaction but a `CMD` write. -/
def registerRows : List TxnRow := writeRows ++ readRows

theorem txnTable_eq : txnTable = commandRows ++ registerRows := List.append_assoc ..

theorem registerRows_ignore_wdata :
    ∀ r ∈ registerRows, wdataField r.mask = 0#32 ∧ r.rsvdOp = false := by decide

/-- The word with the `we` and `a` of `T` and no data. -/
def withoutData (T : TxnWord) : TxnWord := packWord (weField T) (indexField T) 0#32

theorem covers_withoutData {r : TxnRow} (hmask : wdataField r.mask = 0#32) (hop : r.rsvdOp = false)
    (m : Mode) (T : TxnWord) : r.covers m (withoutData T) = r.covers m T := by
  have same : withoutData T &&& r.mask = T &&& r.mask := by
    simp [and_eq_iff_fields, withoutData, weField_and, indexField_and, wdataField_and, hmask]
  simp [TxnRow.covers, same, hop]

theorem coveringNames_registerRows_withoutData (m : Mode) (T : TxnWord) :
    coveringNames registerRows m (withoutData T) = coveringNames registerRows m T := by
  refine congrArg (List.map _) (List.filter_congr fun r hr => ?_)
  obtain ⟨hmask, hop⟩ := registerRows_ignore_wdata r hr
  exact covers_withoutData hmask hop m T

theorem mnemonic_decodeRead (a : RegIndex) (w w' : Word) :
    (decodeRead a w).mnemonic = (decodeRead a w').mnemonic := by
  unfold decodeRead
  split <;> rfl

theorem mnemonic_decodePush (m : Mode) (hi hi' : BitVec 24) (b b' : Byte) :
    (decodePush m hi b).mnemonic = (decodePush m hi' b').mnemonic := by
  cases m <;> rfl

theorem mnemonic_decodeWrite (m : Mode) {a : RegIndex} (h4 : a ≠ 4#6) (w w' : Word) :
    (decodeWrite m a w).mnemonic = (decodeWrite m a w').mnemonic := by
  unfold decodeWrite
  split
  case h_5 h => bv_omega
  case h_7 => exact mnemonic_decodePush ..
  all_goals rfl

/-- A read falls in the row of its index (R102): without its data there are 64 words to look up. -/
theorem coveringNames_registerRows_of_read (m : Mode) {T : TxnWord} (hwe : weField T = false) :
    coveringNames registerRows m T = [(decode m T).mnemonic] := by
  have rows : ∀ a, coveringNames registerRows m (packWord false a 0#32) =
      [(decodeRead a 0#32).mnemonic] := by cases m <;> decide
  rw [← coveringNames_registerRows_withoutData, withoutData, hwe, rows,
    mnemonic_decodeRead _ _ (wdataField T)]
  simp [decode, hwe]

/-- A write that is no command falls in the row of its index, a `DIN` write in the one of its mode
(R102). -/
theorem coveringNames_registerRows_of_write (m : Mode) {T : TxnWord} (hwe : weField T = true)
    (h4 : indexField T ≠ 4#6) :
    coveringNames registerRows m T = [(decode m T).mnemonic] := by
  have rows : ∀ a ≠ 4#6, coveringNames registerRows m (packWord true a 0#32) =
      [(decodeWrite m a 0#32).mnemonic] := by cases m <;> decide
  rw [← coveringNames_registerRows_withoutData, withoutData, hwe, rows _ h4,
    mnemonic_decodeWrite m h4 _ (wdataField T)]
  simp [decode, hwe]

theorem coveringNames_registerRows_of_command (m : Mode) {T : TxnWord} {op : Byte}
    (hc : commandOf T = some op) : coveringNames registerRows m T = [] := by
  obtain ⟨⟨hwe, hi⟩, -⟩ := commandOf_eq_some.mp hc
  rw [← coveringNames_registerRows_withoutData, withoutData, hwe, hi]
  cases m <;> decide

/-! ## The rows of commands -/

/-- The row of the command with code `k`. -/
def codeRow (name : String) (k : Byte) : TxnRow :=
  ⟨name, packWord true 4#6 (joinByte 0#24 k), packWord true 63#6 (joinByte 0#24 255#8), none, false⟩

/-- The row of the reserved codes. -/
def rsvdCodeRow : TxnRow :=
  ⟨"CMD.RSVD", packWord true 4#6 0#32, packWord true 63#6 0#32, none, true⟩

theorem commandRows_eq : commandRows = [codeRow "NOP" 0#8, codeRow "CRC_START" 1#8,
    codeRow "ENC" 2#8, codeRow "ENC0" 3#8, codeRow "RX_BEGIN" 4#8, codeRow "RX_END" 5#8,
    codeRow "TX_BEGIN" 6#8, codeRow "TX_END" 7#8, codeRow "CLR" 8#8, rsvdCodeRow] := by decide

theorem commandRows_test_we_and_index : ∀ r ∈ commandRows,
    weField r.mask = true ∧ weField r.pattern = true ∧
      indexField r.mask = 63#6 ∧ indexField r.pattern = 4#6 := by decide

theorem coveringNames_commandRows_of_not_command (m : Mode) {T : TxnWord} (hc : commandOf T = none) :
    coveringNames commandRows m T = [] := by
  suffices ∀ r ∈ commandRows, r.covers m T ≠ true by
    rw [coveringNames, List.filter_eq_nil_iff.mpr this, List.map_nil]
  intro r hr hcov
  obtain ⟨hwm, hwp, him, hip⟩ := commandRows_test_we_and_index r hr
  obtain ⟨hwe, hi, -⟩ := and_eq_iff_fields.mp (match_of_covers hcov)
  rw [hwm, hwp, Bool.and_true] at hwe
  rw [him, hip, show 63#6 = BitVec.allOnes 6 from rfl, BitVec.and_allOnes] at hi
  simp [commandOf, hwe, hi] at hc

theorem joinByte_and (hi hi' : BitVec 24) (b b' : Byte) :
    joinByte hi b &&& joinByte hi' b' = joinByte (hi &&& hi') (b &&& b') := BitVec.and_append

/-- The mask `0xFF` on the data keeps the command code alone (R100). -/
theorem and_codeMask_eq_iff {w : Word} {k : Byte} :
    w &&& joinByte 0#24 255#8 = joinByte 0#24 k ↔ lowByte w = k := by
  have masked : w &&& joinByte 0#24 255#8 = joinByte 0#24 (lowByte w) := by
    rw [← joinByte_parts w, joinByte_and, lowByte_joinByte, BitVec.and_zero,
      show 255#8 = BitVec.allOnes 8 from rfl, BitVec.and_allOnes]
  rw [masked]
  exact ⟨fun h => by simpa using congrArg lowByte h, congrArg _⟩

theorem covers_codeRow {T : TxnWord} {op : Byte} (hc : commandOf T = some op) (name : String)
    (k : Byte) (m : Mode) : (codeRow name k).covers m T = (op == k) := by
  obtain ⟨⟨hwe, hi⟩, rfl⟩ := commandOf_eq_some.mp hc
  have hmatch : (T &&& (codeRow name k).mask == (codeRow name k).pattern) =
      (lowByte (wdataField T) == k) := by
    rw [Bool.eq_iff_iff]
    simp [and_eq_iff_fields, codeRow, hwe, hi, and_codeMask_eq_iff]
  rw [TxnRow.covers, hmatch]
  simp [codeRow]

theorem covers_rsvdCodeRow {T : TxnWord} {op : Byte} (hc : commandOf T = some op) (m : Mode) :
    rsvdCodeRow.covers m T = reservedOp op := by
  obtain ⟨⟨hwe, hi⟩, rfl⟩ := commandOf_eq_some.mp hc
  have hmatch : T &&& rsvdCodeRow.mask = rsvdCodeRow.pattern := by
    simp [and_eq_iff_fields, rsvdCodeRow, hwe, hi]
  rw [TxnRow.covers, hmatch]
  simp [rsvdCodeRow]

theorem decode_of_command (m : Mode) {T : TxnWord} {op : Byte} (hc : commandOf T = some op) :
    decode m T = decodeCommand (highBits (wdataField T)) op := by
  obtain ⟨⟨hwe, hi⟩, rfl⟩ := commandOf_eq_some.mp hc
  rw [decode, if_pos hwe, hi]
  rfl

/-- A command falls in the row of its code (R101, R102). -/
theorem coveringNames_commandRows_of_command (m : Mode) {T : TxnWord} {op : Byte}
    (hc : commandOf T = some op) :
    coveringNames commandRows m T = [(decode m T).mnemonic] := by
  rw [decode_of_command m hc]
  simp only [commandRows_eq, coveringNames_cons, covers_codeRow hc, covers_rsvdCodeRow hc]
  rcases commandCode_cases op with rfl | rfl | rfl | rfl | rfl | rfl | rfl | rfl | rfl | hop
  case inr.inr.inr.inr.inr.inr.inr.inr.inr =>
    rw [decodeCommand_reserved _ hop]
    simp [ne_of_nine_le_toNat hop, reservedOp, hop, coveringNames, rsvdCodeRow, Instr.mnemonic]
  all_goals rfl

/-! ## The whole table -/

/-- Settles O10, by what `T` is: a command, another write, or a read. -/
theorem everyWordFallsInExactlyOneRow : Obligations.EveryWordFallsInExactlyOneRow := by
  unfold Obligations.EveryWordFallsInExactlyOneRow
  intro m T
  change coveringNames txnTable m T = _
  rw [txnTable_eq, coveringNames_append]
  cases hc : commandOf T
  case some op =>
    rw [coveringNames_commandRows_of_command m hc, coveringNames_registerRows_of_command m hc,
      List.append_nil]
  case none =>
    rw [coveringNames_commandRows_of_not_command m hc, List.nil_append]
    cases hwe : weField T
    case false => exact coveringNames_registerRows_of_read m hwe
    case true =>
      have h4 : indexField T ≠ 4#6 := by simpa [commandOf, hwe] using hc
      exact coveringNames_registerRows_of_write m hwe h4

end Sys2Proof.Machine
end

section
/-! PROOFS. The transactions of the checksum engine (spec/40_crc32.md R135 to R138): the instruction each of
their words decodes to, and the next state each of them leaves. -/

namespace Sys2Proof.Machine

/-! ## Their words -/

/-- A `DIN` write as the spec writes it: `we = 1`, `a = 6`, then the ignored bits and the byte (R92, R100). -/
theorem dinWord_eq_packWord (hi : BitVec 24) (b : Byte) :
    0x4600000000#39 ||| (hi ++ b).setWidth 39 = packWord true 6#6 (joinByte hi b) :=
  (packWord_eq_or true 6#6 (joinByte hi b)).symm

/-- A `DIN` write decodes to the row its mode selects (R102). -/
theorem decode_dinWord (m : Mode) (hi : BitVec 24) (b : Byte) :
    decode m (0x4600000000#39 ||| (hi ++ b).setWidth 39) = decodePush m hi b := by
  rw [dinWord_eq_packWord]
  simp [decode, decodeWrite]

theorem decode_crcStartWord (m : Mode) : decode m 0x4400000001#39 = .crcStart 0#24 := rfl

theorem decode_rdCrcOutWord (m : Mode) : decode m 0x0800000000#39 = .rdCrcOut 0#32 := rfl

theorem decode_rdCrcAccWord (m : Mode) : decode m 0x0900000000#39 = .rdCrcAcc 0#32 := rfl

/-! ## Their next states -/

theorem exec_crcStart (hi : BitVec 24) (s : State) :
    exec (.crcStart hi) s =
      finishWrite { clearFlowFlags s with acc := crcInit, pcnt := 0#32, mode := .raw } := rfl

/-- A push in RAW absorbs its byte and counts it, stopping at the largest count (R136, R15). -/
theorem exec_pushRaw_of_raw {s : State} (h : s.mode = .raw) (hi : BitVec 24) (b : Byte) :
    exec (.pushRaw hi b) s = finishWrite { s with
      acc := crcUpdate s.acc b,
      pcnt := if s.pcnt = 0xFFFFFFFF#32 then 0xFFFFFFFF#32 else s.pcnt + 1#32 } := by
  rw [← satInc_eq]
  exact pushByte_raw h b

theorem exec_rdCrcOut (w : Word) (s : State) :
    exec (.rdCrcOut w) s = finishRead (s.acc ^^^ 0xFFFFFFFF#32) s := rfl

theorem exec_rdCrcAcc (w : Word) (s : State) : exec (.rdCrcAcc w) s = finishRead s.acc s := rfl

/-! ## The statements -/

/-- Settles O16: the command does not look at the mode. -/
theorem crcStartOpensRawFlow : Obligations.CrcStartOpensRawFlow := by
  unfold Obligations.CrcStartOpensRawFlow
  exact fun hi s => ⟨decode_crcStartWord s.mode, exec_crcStart hi s⟩

/-- Settles O17, from the rules of a push in RAW and of the saturating count. -/
theorem pushInRawAbsorbs : Obligations.PushInRawAbsorbs := by
  unfold Obligations.PushInRawAbsorbs
  intro hi b s hraw
  refine ⟨?_, exec_pushRaw_of_raw hraw hi b⟩
  rw [decode_dinWord, hraw]
  rfl

/-- Settles O18: both reads show a function of `ACC` and leave the rest of the state alone. -/
theorem engineReads : Obligations.EngineReads := by
  unfold Obligations.EngineReads
  exact fun w s => ⟨decode_rdCrcOutWord s.mode, decode_rdCrcAccWord s.mode,
    exec_rdCrcOut w s, exec_rdCrcAcc w s⟩

end Sys2Proof.Machine
end

section
/-! PROOFS. The transactions of the packet codec (spec/41_codec.md R156 to R167) and the read of `PCNT`
(spec/42_rx_validate.md R185): the instruction each of their words decodes to, and the next state each of
them leaves. -/

namespace Sys2Proof.Machine

/-! ## Their words -/

/-- A register write as the rules spell it, `we` and `a` in a constant and `wdata` or-ed in (R92). -/
theorem decode_writeWord (m : Mode) (a : RegIndex) (w : Word) :
    decode m (packWord true a 0#32 ||| w.setWidth 39) = decodeWrite m a w := by
  rw [← packWord_eq_or]
  simp [decode]

/-- A register read in the canonical encoding (R92, R108). -/
theorem decode_readTxn (m : Mode) (a : RegIndex) : decode m (readTxn a) = decodeRead a 0#32 := by
  simp [decode, readTxn]

/-- A command with its ignored bits zero (R101, R109). -/
theorem decode_cmdTxn (m : Mode) (op : Byte) :
    decode m (cmdTxn op) = decodeCommand (highBits (zextByte op)) op := by
  simp [decode, cmdTxn, writeTxn, decodeWrite]

/-! ## What the header lock lets through -/

/-- In IDLE and RAW the transaction has its effect (R25). -/
theorem unlessLocked_of_idle_or_raw {s : State} (hm : s.mode = .idle ∨ s.mode = .raw) (a : State) :
    unlessLocked a s = .next { a with rdata := 0#32 } :=
  unlessLocked_unlocked ((headerLocked_eq_false_iff s.mode).mpr hm) a

/-- In RXH, RXP and TXP only `ERR_SEQ` is set (R25, R302). -/
theorem unlessLocked_of_flow_open {s : State}
    (hm : s.mode = .rxh ∨ s.mode = .rxp ∨ s.mode = .txp) (a : State) :
    unlessLocked a s = .next { s with errSeq := true, rdata := 0#32 } :=
  unlessLocked_locked ((headerLocked_iff s.mode).mpr hm) a

/-! ## The header registers -/

theorem truncType_of_one {p : Params} (h : p.typeBytes = .one) (w : Word) :
    truncType p w = (w.extractLsb' 0 8).setWidth 32 := by
  simp [truncType, h, zextByte, lowByte]

theorem truncType_of_four {p : Params} (h : p.typeBytes = .four) (w : Word) :
    truncType p w = w := by
  simp [truncType, h]

theorem exec_wrHdrType (w : Word) (s : State) : exec (.wrHdrType w) s =
    unlessLocked { s with hdrType := truncType s.params w, rxhdr := false } s := rfl

theorem exec_wrHdrSeq (w : Word) (s : State) : exec (.wrHdrSeq w) s =
    unlessLocked { s with hdrSeq := w, rxhdr := false } s := rfl

theorem exec_wrHdrLen (w : Word) (s : State) : exec (.wrHdrLen w) s =
    unlessLocked { s with hdrLen := w, rxhdr := false } s := rfl

theorem exec_wrHdrCsum (w : Word) (s : State) : exec (.wrHdrCsum w) s =
    unlessLocked { s with hdrCsum := w, rxhdr := false } s := rfl

theorem exec_rdHdrType (w : Word) (s : State) : exec (.rdHdrType w) s = finishRead s.hdrType s := rfl

theorem exec_rdHdrSeq (w : Word) (s : State) : exec (.rdHdrSeq w) s = finishRead s.hdrSeq s := rfl

theorem exec_rdHdrLen (w : Word) (s : State) : exec (.rdHdrLen w) s = finishRead s.hdrLen s := rfl

theorem exec_rdHdrCsum (w : Word) (s : State) : exec (.rdHdrCsum w) s = finishRead s.hdrCsum s := rfl

/-! ## The byte buffer and the counters -/

/-- The image `ENC0` leaves ends in four zero bytes in either byte order (R152, R165). -/
theorem encodeZeroed_eq (p : Params) (h : Header) : encodeZeroed p h =
    serType p h.typ ++ ser4 p.endian h.seq ++ ser4 p.endian h.len ++ [0#8, 0#8, 0#8, 0#8] := by
  simp [encodeZeroed, encodeHeader]

theorem exec_enc (hi : BitVec 24) (s : State) :
    exec (.enc hi) s = unlessLocked (loadHbuf (encodeHeader s.params s.header) s) s := rfl

theorem exec_enc0 (hi : BitVec 24) (s : State) :
    exec (.enc0 hi) s = unlessLocked (loadHbuf (encodeZeroed s.params s.header) s) s := rfl

/-- Inside a list, `byteAt` is the byte that stands there. -/
theorem getElem?_eq_some_byteAt {L : List Byte} {i : Nat} (h : i < L.length) :
    L[i]? = some (byteAt L i) := by
  rw [byteAt_eq_getElem L i h, List.getElem?_eq_getElem h]

/-- While `RPTR < HCNT`, `RPTR` points into `HBUF` (R51 (b), R20). -/
theorem State.Inv.rptr_lt_length {s : State} (hinv : s.Inv) (h : s.rptr.toNat < s.hcnt.toNat) :
    s.rptr.toNat < s.hbuf.length := by
  obtain ⟨⟨-, hcnt⟩, -, -, -, -, -, -, hfull⟩ := hinv
  rw [hfull]
  exact h.trans_le hcnt

theorem exec_pop (w : Word) (s : State) : exec (.pop w) s = execPop s := rfl

theorem exec_rdHcnt (w : Word) (s : State) :
    exec (.rdHcnt w) s = finishRead (s.hcnt.setWidth 32) s := rfl

theorem exec_rdPcnt (w : Word) (s : State) : exec (.rdPcnt w) s = finishRead s.pcnt s := rfl

/-! ## The statements -/

/-- Settles O13: the header lock decides between the write and the flag, and the build decides what the
type register keeps. -/
theorem headerWritesStoreOrAreRefused : Obligations.HeaderWritesStoreOrAreRefused := by
  unfold Obligations.HeaderWritesStoreOrAreRefused
  intro w s
  refine ⟨decode_writeWord s.mode 0#6 w, decode_writeWord s.mode 1#6 w,
    decode_writeWord s.mode 2#6 w, decode_writeWord s.mode 3#6 w,
    fun hm => ?accepted, fun hm => ?locked⟩
  case accepted =>
    simp only [exec_wrHdrType, exec_wrHdrSeq, exec_wrHdrLen, exec_wrHdrCsum,
      unlessLocked_of_idle_or_raw hm, and_self, and_true]
    exact ⟨fun h1 => by rw [truncType_of_one h1], fun h4 => by rw [truncType_of_four h4]⟩
  case locked =>
    simp only [exec_wrHdrType, exec_wrHdrSeq, exec_wrHdrLen, exec_wrHdrCsum,
      unlessLocked_of_flow_open hm, and_self]

/-- Settles O14: the four reads show their register in every mode and leave the rest of the state alone. -/
theorem headerReadsReturnTheRegister : Obligations.HeaderReadsReturnTheRegister := by
  unfold Obligations.HeaderReadsReturnTheRegister
  exact fun w s => ⟨decode_readTxn s.mode 0#6, decode_readTxn s.mode 1#6, decode_readTxn s.mode 2#6,
    decode_readTxn s.mode 3#6, exec_rdHdrType w s, exec_rdHdrSeq w s, exec_rdHdrLen w s,
    exec_rdHdrCsum w s⟩

/-- Settles O23: outside the header lock the image is the four fields in order. -/
theorem encodeCommandsFillHbuf : Obligations.EncodeCommandsFillHbuf := by
  unfold Obligations.EncodeCommandsFillHbuf
  intro hi s
  refine ⟨decode_cmdTxn s.mode 2#8, decode_cmdTxn s.mode 3#8, fun hm => ?accepted, fun hm => ?locked⟩
  case accepted =>
    rw [exec_enc, exec_enc0, encodeZeroed_eq]
    exact ⟨unlessLocked_of_idle_or_raw hm _, unlessLocked_of_idle_or_raw hm _⟩
  case locked =>
    rw [exec_enc, exec_enc0]
    exact ⟨unlessLocked_of_flow_open hm _, unlessLocked_of_flow_open hm _⟩

/-- Settles O24: the invariant puts the byte `RPTR` names inside `HBUF`. -/
theorem popReturnsTheNextByte : Obligations.PopReturnsTheNextByte := by
  unfold Obligations.PopReturnsTheNextByte
  intro w s hinv
  refine ⟨decode_readTxn s.mode 7#6, fun hlt => ?next, fun heq => ?empty⟩
  case next =>
    refine ⟨_, getElem?_eq_some_byteAt (hinv.rptr_lt_length hlt), ?_⟩
    rw [exec_pop, execPop_of_lt hlt]
    rfl
  case empty =>
    rw [exec_pop, execPop_of_not_lt (by simp [heq])]
    rfl

/-- Settles O25: both reads show a counter in every mode and leave the rest of the state alone. -/
theorem counterReads : Obligations.CounterReads := by
  unfold Obligations.CounterReads
  exact fun w s => ⟨decode_readTxn s.mode 10#6, decode_readTxn s.mode 11#6, exec_rdHcnt w s,
    exec_rdPcnt w s⟩

end Sys2Proof.Machine
end

section
/-! PROOFS. The transactions of the RX flow (spec/42_rx_validate.md R181 to R184) and the payload push that
the TX flow shares with it (spec/43_tx_seal.md R202): the instruction each of their words decodes to, and
the next state each of them leaves. -/

namespace Sys2Proof.Machine

/-! ## Opening the flow -/

theorem exec_rxBegin (hi : BitVec 24) (s : State) :
    exec (.rxBegin hi) s = finishWrite (openHeaderFlow crcInit .rxh s) := rfl

/-! ## A header byte -/

theorem exec_pushRxh (hi : BitVec 24) (b : Byte) (s : State) :
    exec (.pushRxh hi b) s = pushByte b s := rfl

/-- The engine takes zero in place of a byte of the checksum field (R182). -/
theorem crcUpdate_coveredHeaderByte (acc : Word) (p : Params) (n : Nat) (b : Byte) :
    crcUpdate acc (coveredHeaderByte p n b) =
      if n ≥ p.csumOff then crcUpdate acc 0#8 else crcUpdate acc b :=
  apply_ite (crcUpdate acc) ..

/-- The last header byte belongs to the checksum field (R91, R11). -/
theorem coveredHeaderByte_last {p : Params} {n : Nat} (h : n + 1 = p.hdrSize) (b : Byte) :
    coveredHeaderByte p n b = 0#8 := by
  have hoff := csumOff_add_four p
  exact if_pos (by omega)

/-- A buffer of exactly `HDR_SIZE` bytes decodes, with nothing left over (R151). -/
theorem decodeHeader_of_length_eq {p : Params} {buf : List Byte} (h : buf.length = p.hdrSize) :
    decodeHeader p buf = some (headerFields p buf, []) :=
  decodeHeader_eq_some.mpr ⟨h.ge, rfl, (List.drop_eq_nil_of_le h.le).symm⟩

/-- `HBUF` has `HDR_SIZE` bytes (R20). -/
theorem State.Inv.length_hbuf {s : State} (hinv : s.Inv) : s.hbuf.length = s.params.hdrSize := by
  obtain ⟨-, -, -, -, -, -, -, hfull⟩ := hinv
  exact hfull

/-! ## A payload byte -/

theorem exec_pushRxp (hi : BitVec 24) (b : Byte) (s : State) :
    exec (.pushRxp hi b) s = pushByte b s := rfl

theorem exec_pushTxp (hi : BitVec 24) (b : Byte) (s : State) :
    exec (.pushTxp hi b) s = pushByte b s := rfl

/-- The one rule of R183 and R202: inside the covered span the byte is absorbed, outside it `EXTRA` is set,
and it is counted in both cases. -/
theorem pushByte_absorbs_or_flags {s r : State} (hm : s.mode = .rxp ∨ s.mode = .txp) (b : Byte)
    (hr : r = { s with
      pcnt := if s.pcnt = 0xFFFFFFFF#32 then 0xFFFFFFFF#32 else s.pcnt + 1#32, rdata := 0#32 }) :
    (s.hdrType = 2#32 ∧ s.pcnt < s.hdrLen →
      pushByte b s = .next { r with acc := crcUpdate s.acc b }) ∧
    (¬(s.hdrType = 2#32 ∧ s.pcnt < s.hdrLen) → pushByte b s = .next { r with extra := true }) := by
  rw [← satInc_eq] at hr
  subst hr
  rw [← payloadMissing_iff, Bool.not_eq_true]
  exact ⟨fun hc => pushByte_covered hm hc b, fun hc => pushByte_extra hm hc b⟩

/-! ## The verdict -/

theorem rxVerdict_of_short {s : State} (h : s.hcnt.toNat < s.params.hdrSize) :
    rxVerdict s = .short :=
  if_pos h

theorem rxVerdict_of_lenerr {s : State} (h : ¬s.hcnt.toNat < s.params.hdrSize)
    (hl : s.hdrType = 2#32 ∧ s.pcnt < s.hdrLen) : rxVerdict s = .lenerr := by
  rw [rxVerdict, if_neg h, if_pos ((payloadMissing_iff s).mpr hl)]

/-- With the header complete and no payload missing, the checksum decides (R184). -/
theorem rxVerdict_of_complete {s : State} (h : ¬s.hcnt.toNat < s.params.hdrSize)
    (hl : ¬(s.hdrType = 2#32 ∧ s.pcnt < s.hdrLen)) :
    rxVerdict s = if s.acc ^^^ 0xFFFFFFFF#32 = s.hdrCsum then .accept else .crcErr := by
  rw [rxVerdict, if_neg h, if_neg (mt (payloadMissing_iff s).mp hl)]
  rfl

/-- The four flags `RX_END` writes, by the formulas of R184. -/
theorem setVerdict_rxVerdict {s : State} {isShort isLenerr isMatch : Bool}
    (hS : isShort = true ↔ s.hcnt.toNat < s.params.hdrSize)
    (hL : isLenerr = true ↔ isShort = false ∧ s.hdrType = 2#32 ∧ s.pcnt < s.hdrLen)
    (hM : isMatch = true ↔ s.acc ^^^ 0xFFFFFFFF#32 = s.hdrCsum) :
    setVerdict (rxVerdict s) s = { s with
      short := isShort, lenerr := isLenerr, crcErr := !isShort && !isLenerr && !isMatch,
      accept := !isShort && !isLenerr && isMatch } := by
  cases isShort
  case true =>
    obtain rfl : isLenerr = false := by simpa using hL
    rw [rxVerdict_of_short (hS.mp rfl)]
    rfl
  case false =>
    have hfull : ¬s.hcnt.toNat < s.params.hdrSize := fun h => nomatch hS.mpr h
    cases isLenerr
    case true =>
      rw [rxVerdict_of_lenerr hfull (hL.mp rfl).2]
      rfl
    case false =>
      rw [rxVerdict_of_complete hfull fun h => nomatch hL.mpr ⟨rfl, h⟩]
      simp only [← hM]
      cases isMatch <;> rfl

/-- Exactly one of the four verdict flags is set (R184). -/
theorem setVerdict_exactly_one (v : Verdict) (s : State) :
    (setVerdict v s).accept.toNat + (setVerdict v s).crcErr.toNat + (setVerdict v s).short.toNat +
      (setVerdict v s).lenerr.toNat = 1 := by
  cases v <;> rfl

/-! ## Closing the flow -/

theorem rxOpen_eq_false_iff (m : Mode) :
    rxOpen m = false ↔ m = .idle ∨ m = .raw ∨ m = .txp := by
  cases m <;> simp [rxOpen]

theorem exec_rxEnd_of_rxOpen {s : State} (h : s.mode = .rxh ∨ s.mode = .rxp) (hi : BitVec 24) :
    exec (.rxEnd hi) s = finishWrite (closeFlow (setVerdict (rxVerdict s) s)) :=
  if_pos ((rxOpen_iff s.mode).mpr h)

theorem exec_rxEnd_of_not_rxOpen {s : State} (h : s.mode = .idle ∨ s.mode = .raw ∨ s.mode = .txp)
    (hi : BitVec 24) : exec (.rxEnd hi) s = finishWrite { s with errSeq := true } :=
  if_neg (ne_true_of_eq_false ((rxOpen_eq_false_iff s.mode).mpr h))

/-! ## The statements -/

/-- Settles O29: the command does not look at the mode. -/
theorem rxBeginOpensRxFlow : Obligations.RxBeginOpensRxFlow := by
  unfold Obligations.RxBeginOpensRxFlow
  exact fun hi s => ⟨decode_cmdTxn s.mode 4#8, exec_rxBegin hi s⟩

/-- Settles O30: the invariant gives `HBUF` the length of a header, so the completed buffer decodes. -/
theorem pushInRxhTakesHeaderByte : Obligations.PushInRxhTakesHeaderByte := by
  unfold Obligations.PushInRxhTakesHeaderByte
  intro hi b s hrxh hinv
  refine ⟨?word, fun hlt => ?next, fun hlast => ?last⟩
  case word =>
    rw [decode_dinWord, hrxh]
    rfl
  case next =>
    rw [exec_pushRxh, pushByte_rxh hrxh hlt.ne, crcUpdate_coveredHeaderByte]
    rfl
  case last =>
    have hlen : (s.hbuf.set s.hcnt.toNat b).length = s.params.hdrSize := by
      rw [List.length_set, hinv.length_hbuf]
    refine ⟨_, decodeHeader_of_length_eq hlen, ?_⟩
    rw [exec_pushRxh, pushByte_rxh_last hrxh hlast, coveredHeaderByte_last hlast]
    rfl

/-- Settles O31: both modes have the one rule of a payload byte. -/
theorem pushOfPayloadAbsorbsOrFlags : Obligations.PushOfPayloadAbsorbsOrFlags := by
  unfold Obligations.PushOfPayloadAbsorbsOrFlags
  intro hi b s r hr
  refine ⟨fun hrxp => ?rxp, fun htxp => ?txp⟩
  case rxp =>
    rw [decode_dinWord, hrxp, exec_pushRxp]
    exact ⟨rfl, pushByte_absorbs_or_flags (.inl hrxp) b hr⟩
  case txp =>
    rw [decode_dinWord, htxp, exec_pushTxp]
    exact ⟨rfl, pushByte_absorbs_or_flags (.inr htxp) b hr⟩

/-- Settles O32, from the verdict's formulas in an open flow and the misuse rule outside it. -/
theorem rxEndSetsTheVerdict : Obligations.RxEndSetsTheVerdict := by
  unfold Obligations.RxEndSetsTheVerdict
  intro hi s
  refine ⟨decode_cmdTxn s.mode 5#8, fun hopen isShort isLenerr isMatch hS hL hM => ?verdict,
    fun hopen t ht => ?exactlyOne, fun hm => exec_rxEnd_of_not_rxOpen hm hi⟩
  case verdict =>
    rw [exec_rxEnd_of_rxOpen hopen, setVerdict_rxVerdict hS hL hM]
    rfl
  case exactlyOne =>
    rw [exec_rxEnd_of_rxOpen hopen, finishWrite_eq_next] at ht
    subst ht
    exact setVerdict_exactly_one (rxVerdict s) s

end Sys2Proof.Machine
end

section
/-! PROOFS. The two commands of the TX flow (spec/43_tx_seal.md R201, R203): the next state of
`TX_BEGIN`, and the one each branch of `TX_END` leaves. -/

namespace Sys2Proof.Machine

/-! ## Opening the flow -/

theorem exec_txBegin (hi : BitVec 24) (s : State) : exec (.txBegin hi) s =
    finishWrite (openHeaderFlow (crcAbsorb crcInit (encodeZeroed s.params s.header)) .txp s) := rfl

/-! ## Closing the flow -/

theorem exec_txEnd (hi : BitVec 24) (s : State) : exec (.txEnd hi) s = execTxEnd s := rfl

theorem execTxEnd_of_payloadMissing {s : State} (hm : s.mode = .txp)
    (hp : s.hdrType = 2#32 ∧ s.pcnt < s.hdrLen) :
    execTxEnd s = finishWrite (closeFlow { s with lenerr := true }) := by
  rw [execTxEnd_eq, if_pos hm, if_pos ((payloadMissing_iff s).mpr hp)]

theorem execTxEnd_of_payloadComplete {s : State} (hm : s.mode = .txp)
    (hp : ¬(s.hdrType = 2#32 ∧ s.pcnt < s.hdrLen)) :
    execTxEnd s = finishWrite (closeFlow (sealHeader { s with lenerr := false })) := by
  rw [execTxEnd_eq, if_pos hm, if_neg (mt (payloadMissing_iff s).mp hp)]

theorem execTxEnd_of_ne_txp {s : State} (hm : s.mode ≠ .txp) :
    execTxEnd s = finishWrite (raiseMisuse .seq s) := by
  rw [execTxEnd_eq, if_neg hm]

theorem ne_txp_iff (m : Mode) : m ≠ .txp ↔ m = .idle ∨ m = .raw ∨ m = .rxh ∨ m = .rxp := by
  cases m <;> simp

/-! ## The statements -/

/-- Settles O34: the command does not look at the mode, and the span it absorbs is the zeroed header. -/
theorem txBeginAbsorbsTheHeader : Obligations.TxBeginAbsorbsTheHeader := by
  unfold Obligations.TxBeginAbsorbsTheHeader
  intro hi s
  refine ⟨decode_cmdTxn s.mode 6#8, ?next⟩
  rw [exec_txBegin, encodeZeroed_eq]
  rfl

/-- Settles O35, one branch of `TX_END` for each of the three cases. -/
theorem txEndSealsTheHeader : Obligations.TxEndSealsTheHeader := by
  unfold Obligations.TxEndSealsTheHeader
  intro hi s
  rw [exec_txEnd]
  exact ⟨decode_cmdTxn s.mode 7#8, fun hm hp => execTxEnd_of_payloadComplete hm hp,
    fun hm hp => execTxEnd_of_payloadMissing hm hp,
    fun hm => execTxEnd_of_ne_txp ((ne_txp_iff s.mode).mpr hm)⟩

end Sys2Proof.Machine
end

section
/-! PROOFS. The build parameters (spec/10_state.md R9, R10, R39) are out of every step's reach
(spec/70_reset_and_hazards.md R343): a lemma for each kind of transaction, then for a step. -/

namespace Sys2Proof.Machine

/-! ## What each kind of transaction does with the parameters -/

/-- If `r` is a next state, it has the parameters of `s` (R343). -/
def KeepsParams (s : State) (r : Result) : Prop := ∀ t, r = .next t → t.params = s.params

theorem keepsParams_next {s u : State} (h : u.params = s.params) : KeepsParams s (.next u) := by
  rintro t ⟨⟩
  exact h

/-- Completing a write touches `rdata` alone. -/
theorem keepsParams_finishWrite {s u : State} (h : u.params = s.params) :
    KeepsParams s (finishWrite u) :=
  keepsParams_next h

/-- Completing a read touches `rdata` alone. -/
theorem keepsParams_finishRead {s u : State} (v : Word) (h : u.params = s.params) :
    KeepsParams s (finishRead v u) :=
  keepsParams_next h

/-- A refused transaction sets a flag, so only its effect when accepted is in question (R25). -/
theorem keepsParams_unlessLocked {s a : State} (h : a.params = s.params) :
    KeepsParams s (unlessLocked a s) := by
  rw [unlessLocked_eq]
  refine keepsParams_finishWrite ?_
  split
  · exact raiseMisuse_params .seq s
  · exact h

theorem keepsParams_execRxEnd (s : State) : KeepsParams s (execRxEnd s) := by
  rw [execRxEnd_eq]
  refine keepsParams_finishWrite ?_
  split <;> simp

theorem keepsParams_execTxEnd (s : State) : KeepsParams s (execTxEnd s) := by
  rw [execTxEnd_eq]
  refine keepsParams_finishWrite ?_
  split
  · split <;> simp [sealHeader]
  · simp

theorem keepsParams_command {T : TxnWord} {op : Byte} (hc : commandOf T = some op) (s : State) :
    KeepsParams s (stepWord T s) := by
  rcases stepWord_command_cases hc s with ⟨-, e⟩ | ⟨-, e⟩ | ⟨-, e⟩ | ⟨-, e⟩ | ⟨-, e⟩ |
    ⟨-, e⟩ | ⟨-, e⟩ | ⟨-, e⟩ | ⟨-, e⟩ | ⟨-, e⟩ <;> rw [e]
  · -- `NOP`
    exact keepsParams_finishWrite rfl
  · -- `CRC_START`
    exact keepsParams_finishWrite rfl
  · -- `ENC`
    exact keepsParams_unlessLocked (loadHbuf_params _ s)
  · -- `ENC0`
    exact keepsParams_unlessLocked (loadHbuf_params _ s)
  · -- `RX_BEGIN`
    exact keepsParams_finishWrite (openHeaderFlow_params _ _ s)
  · exact keepsParams_execRxEnd s
  · -- `TX_BEGIN`
    exact keepsParams_finishWrite (openHeaderFlow_params _ _ s)
  · exact keepsParams_execTxEnd s
  · -- `CLR`
    exact keepsParams_finishWrite (resetBlock_params s)
  · -- a reserved code
    exact keepsParams_finishWrite (raiseMisuse_params .cmd s)

theorem keepsParams_pushByte (b : Byte) (s : State) : KeepsParams s (pushByte b s) := by
  cases hm : s.mode
  case idle => exact pushByte_idle hm b ▸ keepsParams_finishWrite rfl
  case raw => exact pushByte_raw hm b ▸ keepsParams_finishWrite rfl
  case rxh =>
    by_cases hn : s.hcnt.toNat + 1 = s.params.hdrSize
    · exact pushByte_rxh_last hm hn b ▸ keepsParams_finishWrite rfl
    · exact pushByte_rxh hm hn b ▸ keepsParams_finishWrite rfl
  case rxp | txp =>
    rw [pushByte_payload (by simp [hm])]
    refine keepsParams_finishWrite ?_
    split <;> simp

theorem keepsParams_execPop (s : State) : KeepsParams s (execPop s) := by
  by_cases h : s.rptr < s.hcnt
  · exact execPop_of_lt h ▸ keepsParams_finishRead _ rfl
  · exact execPop_of_not_lt h ▸ keepsParams_finishRead _ rfl

/-! ## Every transaction and every step -/

theorem keepsParams_stepWord (T : TxnWord) (s : State) : KeepsParams s (stepWord T s) := by
  cases txnKind T
  case command op hc _ _ _ => exact keepsParams_command hc s
  case push b _ hp _ _ => exact stepWord_pushedByte hp s ▸ keepsParams_pushByte b s
  case headerWrite _ _ hw _ =>
    obtain ⟨H, e⟩ := stepWord_writesHeader hw s
    exact e ▸ keepsParams_unlessLocked rfl
  case doutRead _ _ _ hr => exact stepWord_readsDout hr s ▸ keepsParams_execPop s
  case plain hc hp hw hr =>
    obtain ⟨v, e⟩ := stepWord_plain hc hp hw hr s
    exact e ▸ keepsParams_finishRead v rfl

/-- With `rst` the block is reset, whatever else the port carries (R340). -/
theorem stepInput_rst (sel : Bool) (T : TxnWord) (s : State) :
    stepInput ⟨true, sel, T⟩ s = .next (resetBlock s) := rfl

/-- Without `rst` and `sel` nothing happens (R60). -/
theorem stepInput_idle (T : TxnWord) (s : State) : stepInput ⟨false, false, T⟩ s = .next s := rfl

theorem stepInput_txn (T : TxnWord) (s : State) :
    stepInput ⟨false, true, T⟩ s = stepWord T s := rfl

/-- A reset step, an idle step and a transaction all keep the parameters (R343). -/
theorem keepsParams_stepInput (x : PortInput) (s : State) : KeepsParams s (stepInput x s) := by
  obtain ⟨rst, sel, T⟩ := x
  cases rst
  case true => exact stepInput_rst sel T s ▸ keepsParams_next (resetBlock_params s)
  case false =>
    cases sel
    case false => exact stepInput_idle T s ▸ keepsParams_next rfl
    case true => exact stepInput_txn T s ▸ keepsParams_stepWord T s

/-- Taking the input off the port does not touch the parameters either. -/
theorem keepsParams_step (s : State) : KeepsParams s (step s) := by
  cases h : s.inbox
  case nil => exact step_nil h ▸ keepsParams_next rfl
  case cons x rest => exact step_cons h ▸ keepsParams_stepInput x { s with inbox := rest }

/-! ## The constant -/

theorem exec_rdConfig (w : Word) (s : State) :
    exec (.rdConfig w) s = finishRead (configWord s.params) s := rfl

/-- The layout table of R39, for each of the four builds. -/
theorem configWord_layout (p : Params) :
    ((configWord p).getLsbD 0 = true ↔ p.endian = .be) ∧
    ((configWord p).getLsbD 1 = true ↔ p.typeBytes = .four) ∧
    (configWord p).extractLsb' 2 6 = 0#6 ∧
    ((configWord p).extractLsb' 8 5).toNat = p.hdrSize ∧
    (configWord p).extractLsb' 13 19 = 0#19 := by
  obtain ⟨e, n⟩ := p
  cases e <;> cases n <;> decide

/-- Settles O44: the word is read off the parameters, and every step keeps them. -/
theorem configIsConstant : Obligations.ConfigIsConstant := by
  unfold Obligations.ConfigIsConstant
  refine ⟨fun w s => ⟨decode_readTxn s.mode 12#6, configWord s.params, exec_rdConfig w s, ?layout⟩,
    keepsParams_step⟩
  obtain ⟨hbe, hfour, hgap, hsize, htop⟩ := configWord_layout s.params
  refine ⟨hbe, hfour, hgap, hsize, htop, ?_, ?_, ?_, ?_⟩
  all_goals
    intro hp
    rw [hp, configWord_eq]

end Sys2Proof.Machine
end

section
/-! PROOFS. The other control and status transactions (spec/44_control.md R220 to R224, R226 to R228): the
instruction each of their words decodes to, and the next state each of them leaves. -/

namespace Sys2Proof.Machine

/-! ## Commands and pushes -/

/-- A `CMD` write as the spec writes it: the ignored bits and the code or-ed in (R92, R100). -/
theorem decode_cmdWord (m : Mode) (hi : BitVec 24) (op : Byte) :
    decode m (0x4400000000#39 ||| (hi ++ op).setWidth 39) = decodeCommand hi op := by
  refine (decode_writeWord m 4#6 (joinByte hi op)).trans ?_
  simp [decodeWrite]

theorem exec_nop (hi : BitVec 24) (s : State) : exec (.nop hi) s = finishWrite s := rfl

theorem exec_cmdRsvd (hi : BitVec 24) (op : Byte) (s : State) :
    exec (.cmdRsvd hi op) s = finishWrite (raiseMisuse .cmd s) := rfl

theorem exec_pushIdle (hi : BitVec 24) (b : Byte) (s : State) :
    exec (.pushIdle hi b) s = pushByte b s := rfl

/-- Settles O39: the code alone decides, and the decoder keeps the ignored bits apart. -/
theorem nopAndReservedCommands : Obligations.NopAndReservedCommands := by
  unfold Obligations.NopAndReservedCommands
  intro hi op s
  refine ⟨decode_cmdWord s.mode 0#24 0#8, decode_cmdWord s.mode 0xABCDEF#24 0#8, exec_nop hi s,
    fun hop => ⟨?_, exec_cmdRsvd hi op s⟩⟩
  rw [decode_cmdWord, decodeCommand_reserved hi hop]

/-- Settles O40: `CLR` and a reset step are the one function `resetBlock`. -/
theorem clrRestoresTheResetState : Obligations.ClrRestoresTheResetState := by
  unfold Obligations.ClrRestoresTheResetState
  refine fun hi s => ⟨decode_cmdTxn s.mode 8#8, exec_clr hi s, fun sel T => ?_⟩
  rw [step_present, stepInput_rst, exec_clr, resetBlock]

/-- Settles O41, from the rule of a push in IDLE. -/
theorem pushInIdleIsLost : Obligations.PushInIdleIsLost := by
  unfold Obligations.PushInIdleIsLost
  intro hi b s hidle
  refine ⟨?_, pushByte_idle hidle b⟩
  rw [decode_dinWord, hidle]
  rfl

/-! ## The status word -/

/-- The flags of the layout table of R38, from bit 0 to bit 11. -/
def statusFlags (s : State) : List Bool :=
  [s.done, s.accept, s.crcErr, s.short, s.lenerr, s.extra, s.rxhdr, typeKnown s, ctrlLenNz s,
    s.errCmd, s.errSeq, s.underrun]

/-- Bit by bit: the flags, then `MODE`, of which no bit is above bit 14 (R38). -/
theorem getLsbD_statusWord (s : State) (i : Nat) : (statusWord s).getLsbD i =
    if i < 12 then (statusFlags s).getD i false else (modeCode s.mode).getLsbD (i - 12) := by
  simp only [statusWord, BitVec.getLsbD_or, getLsbD_bitAt, BitVec.getLsbD_shiftLeft,
    BitVec.getLsbD_setWidth]
  by_cases h : i < 12
  case pos =>
    rw [if_pos h]
    interval_cases i <;> simp [statusFlags]
  case neg =>
    have hne : ∀ k < 12, i ≠ k := by omega
    have width : (modeCode s.mode).getLsbD (i - 12) = true → i < 15 := fun hbit => by
      have := BitVec.lt_of_getLsbD hbit
      omega
    simp only [h, hne, Nat.reduceLT]
    grind

theorem extractLsb'_statusWord_mode (s : State) :
    (statusWord s).extractLsb' 12 3 = modeCode s.mode := by
  ext i hi
  simp [getLsbD_statusWord, BitVec.getLsbD_eq_getElem hi]

theorem extractLsb'_statusWord_reserved (s : State) :
    (statusWord s).extractLsb' 15 17 = 0#17 := by
  ext i hi
  have above : (modeCode s.mode).getLsbD (15 + i - 12) = false := BitVec.getLsbD_of_ge _ _ (by omega)
  simp [getLsbD_statusWord, above, show ¬15 + i < 12 by omega]

theorem exec_rdStatus (w : Word) (s : State) :
    exec (.rdStatus w) s = finishRead (statusWord s) s := rfl

/-- Settles O43: each flag stands at its bit of the word, which is the value read. -/
theorem statusReadLayout : Obligations.StatusReadLayout := by
  unfold Obligations.StatusReadLayout
  intro w s
  have bit := getLsbD_statusWord s
  refine ⟨decode_readTxn s.mode 5#6, statusWord s, exec_rdStatus w s, bit 0, bit 1, bit 2, bit 3,
    bit 4, bit 5, bit 6, ?known, ?ctrl, bit 9, bit 10, bit 11, ?mode,
    extractLsb'_statusWord_reserved s⟩
  case known => exact bit 7 ▸ typeKnown_iff s
  case ctrl => exact bit 8 ▸ ctrlLenNz_iff s
  case mode =>
    rw [extractLsb'_statusWord_mode]
    cases s.mode <;> rfl

/-! ## Accesses in the wrong direction and to reserved indices -/

theorem decodeWrite_reserved (m : Mode) {a : RegIndex} (w : Word) (h : 13 ≤ a.toNat) :
    decodeWrite m a w = .wrRsvd a w := by
  unfold decodeWrite
  split
  case h_14 => rfl
  all_goals omega

theorem decodeRead_reserved {a : RegIndex} (w : Word) (h : 13 ≤ a.toNat) :
    decodeRead a w = .rdRsvd a w := by
  unfold decodeRead
  split
  case h_14 => rfl
  all_goals omega

theorem decode_packWord_true (m : Mode) (a : RegIndex) (w : Word) :
    decode m (packWord true a w) = decodeWrite m a w := by
  simp [decode]

theorem decode_packWord_false (m : Mode) (a : RegIndex) (w : Word) :
    decode m (packWord false a w) = decodeRead a w := by
  simp [decode]

/-- The writes to the seven read-only registers (R227). -/
def readOnlyWrites (w : Word) : List Instr :=
  [.wrStatus w, .wrDout w, .wrCrcOut w, .wrCrcAcc w, .wrHcnt w, .wrPcnt w, .wrConfig w]

theorem exec_of_mem_readOnlyWrites {w : Word} {i : Instr} (hi : i ∈ readOnlyWrites w) (s : State) :
    exec i s = finishWrite s := by
  simp only [readOnlyWrites, List.mem_cons, List.not_mem_nil, or_false] at hi
  rcases hi with rfl | rfl | rfl | rfl | rfl | rfl | rfl <;> rfl

theorem exec_rdCmd (w : Word) (s : State) : exec (.rdCmd w) s = finishRead 0#32 s := rfl

theorem exec_rdDin (w : Word) (s : State) : exec (.rdDin w) s = finishRead 0#32 s := rfl

theorem exec_wrRsvd (a : RegIndex) (w : Word) (s : State) :
    exec (.wrRsvd a w) s = finishWrite s := rfl

theorem exec_rdRsvd (a : RegIndex) (w : Word) (s : State) :
    exec (.rdRsvd a w) s = finishRead 0#32 s := rfl

/-- Settles O45: none of these accesses does more than return 0. -/
theorem wrongDirectionAndReservedAccesses : Obligations.WrongDirectionAndReservedAccesses := by
  unfold Obligations.WrongDirectionAndReservedAccesses
  intro w a s
  refine ⟨decode_readTxn s.mode 4#6, decode_readTxn s.mode 6#6, exec_rdCmd w s, exec_rdDin w s,
    decode_writeWord s.mode 5#6 w, decode_writeWord s.mode 7#6 w, decode_writeWord s.mode 8#6 w,
    decode_writeWord s.mode 9#6 w, decode_writeWord s.mode 10#6 w, decode_writeWord s.mode 11#6 w,
    decode_writeWord s.mode 12#6 w, fun i hi => exec_of_mem_readOnlyWrites hi s, fun ha => ?reserved⟩
  rw [decode_packWord_true, decode_packWord_false, decodeWrite_reserved s.mode w ha,
    decodeRead_reserved w ha]
  exact ⟨rfl, rfl, exec_wrRsvd a w s, exec_rdRsvd a w s⟩

end Sys2Proof.Machine
end

section
/-! PROOFS. The causes of `ERR_SEQ` (spec/60_exceptions.md R302): every transaction completes, so what a
completed transaction did to the sticky flags (R36) says what a refused one does. -/

namespace Sys2Proof.Machine

/-! ## Every transaction completes -/

theorem command_completes {T : TxnWord} {op : Byte} (hc : commandOf T = some op) (s : State) :
    ∃ t, stepWord T s = .next t := by
  rcases stepWord_command_cases hc s with ⟨-, e⟩ | ⟨-, e⟩ | ⟨-, e⟩ | ⟨-, e⟩ | ⟨-, e⟩ |
    ⟨-, e⟩ | ⟨-, e⟩ | ⟨-, e⟩ | ⟨-, e⟩ | ⟨-, e⟩
  · -- `NOP`
    exact ⟨_, e⟩
  · -- `CRC_START`
    exact ⟨_, e⟩
  · -- `ENC`
    exact ⟨_, e.trans (unlessLocked_eq _ s)⟩
  · -- `ENC0`
    exact ⟨_, e.trans (unlessLocked_eq _ s)⟩
  · -- `RX_BEGIN`
    exact ⟨_, e⟩
  · -- `RX_END`
    exact ⟨_, e.trans (execRxEnd_eq s)⟩
  · -- `TX_BEGIN`
    exact ⟨_, e⟩
  · -- `TX_END`
    exact ⟨_, e.trans (execTxEnd_eq s)⟩
  · -- `CLR`
    exact ⟨_, e⟩
  · -- a reserved code
    exact ⟨_, e⟩

theorem execPop_completes (s : State) : ∃ t, execPop s = .next t := by
  by_cases h : s.rptr < s.hcnt
  · exact ⟨_, execPop_of_lt h⟩
  · exact ⟨_, execPop_of_not_lt h⟩

/-- No transaction faults or is refused, a misused one included (R232, R306). -/
theorem stepWord_completes (T : TxnWord) (s : State) : ∃ t, stepWord T s = .next t := by
  cases txnKind T
  case command op hc _ _ _ => exact command_completes hc s
  case push b _ hp _ _ =>
    obtain ⟨u, hu, -⟩ := pushByte_sticky b s
    exact ⟨_, (stepWord_pushedByte hp s).trans hu⟩
  case headerWrite _ _ hw _ =>
    obtain ⟨H, e⟩ := stepWord_writesHeader hw s
    exact ⟨_, e.trans (unlessLocked_eq _ s)⟩
  case doutRead _ _ _ hr => exact stepWord_readsDout hr s ▸ execPop_completes s
  case plain hc hp hw hr =>
    obtain ⟨v, e⟩ := stepWord_plain hc hp hw hr s
    exact ⟨_, e⟩

/-! ## The flag -/

/-- A sequence misuse sets the flag and changes nothing else of the block (R302). -/
theorem eq_of_seqMisuse {T : TxnWord} {s t : State} (hq : seqMisuse s.mode T = true)
    (h : stepWord T s = .next t) : t = { s with errSeq := true, rdata := 0#32 } := by
  cases stickyOutcome h
  case sequence _ _ _ _ ht => exact ht
  case reserved _ _ hno _ _ | underrun _ _ hno _ _ | clear _ _ hno _ _ | unchanged _ _ hno _ _ =>
    simp [hq] at hno

/-- Any other transaction leaves the flag as it was, except `CLR` (R36, R302). -/
theorem errSeq_of_not_seqMisuse {T : TxnWord} {s t : State} (hq : seqMisuse s.mode T = false)
    (h : stepWord T s = .next t) : t.errSeq = if isClr T then false else s.errSeq := by
  cases stickyOutcome h
  case sequence _ _ hyes _ _ => simp [hq] at hyes
  case reserved hk _ _ _ ht => simp [hk, ht]
  case underrun hk _ _ _ ht => simp [hk, ht]
  case clear hk _ _ _ ht => simp [hk, ht]
  case unchanged hk _ _ _ ht =>
    obtain ⟨-, hseq, -⟩ := ht
    simp [hk, hseq]

/-- Settles O47: a misused transaction completes, in the one state `eq_of_seqMisuse` names. -/
theorem sequenceErrorCauses : Obligations.SequenceErrorCauses := by
  unfold Obligations.SequenceErrorCauses
  refine fun T s => ⟨fun hq => ?_, fun hq t h => errSeq_of_not_seqMisuse hq h⟩
  obtain ⟨t, h⟩ := stepWord_completes T s
  rw [h, eq_of_seqMisuse hq h]

end Sys2Proof.Machine
end

section
/-! PROOFS. The checksum engine bit by bit (spec/40_crc32.md R130 to R132, R142): one shift step is linear and
loses nothing, so absorbing at most 32 bits is shifting their sum with the register, and two registers or two
such bursts that differ stay different. -/

namespace Sys2Proof.Machine

/-! ## One shift step is linear and injective -/

theorem crcShift_xor (x y : Word) : crcShift (x ^^^ y) = crcShift x ^^^ crcShift y := by
  have hshift : (x ^^^ y) >>> 1 = x >>> 1 ^^^ y >>> 1 := BitVec.ushiftRight_xor_distrib x y 1
  unfold crcShift
  rw [BitVec.getLsbD_xor, hshift]
  cases x.getLsbD 0 <;> cases y.getLsbD 0
  case false.false => rfl
  case false.true => exact BitVec.xor_assoc _ _ _
  case true.false => simp [BitVec.xor_assoc, BitVec.xor_comm crcPoly]
  case true.true => simp [BitVec.xor_assoc, ← BitVec.xor_assoc crcPoly, BitVec.xor_comm crcPoly]

theorem crcShift_of_even {x : Word} (h : x.getLsbD 0 = false) : crcShift x = x >>> 1 :=
  if_neg (ne_true_of_eq_false h)

/-- A set bit that is shifted out leaves the top bit of the polynomial behind. -/
theorem getLsbD_crcShift_top {x : Word} (h : x.getLsbD 0 = true) :
    (crcShift x).getLsbD 31 = true := by
  have hpoly : crcPoly.getLsbD 31 = true := by decide
  rw [crcShift, if_pos h, BitVec.getLsbD_xor, hpoly]
  simp

theorem eq_zero_of_crcShift_eq_zero {x : Word} (h : crcShift x = 0#32) : x = 0#32 := by
  cases h0 : x.getLsbD 0
  case true =>
    have htop := getLsbD_crcShift_top h0
    simp [h] at htop
  case false =>
    rw [crcShift_of_even h0] at h
    apply BitVec.eq_of_getLsbD_eq
    rintro (_ | i) -
    · exact h0
    · have hbit : (x >>> 1).getLsbD i = false := by simp [h]
      simpa [BitVec.getLsbD_ushiftRight, Nat.add_comm] using hbit

theorem crcShift_injective : Function.Injective crcShift := by
  intro x y h
  have hzero : crcShift (x ^^^ y) = 0#32 := by rw [crcShift_xor, h, BitVec.xor_self]
  exact BitVec.xor_eq_zero_iff.mp (eq_zero_of_crcShift_eq_zero hzero)

theorem crcShifts_xor (k : Nat) (x y : Word) :
    crcShifts k (x ^^^ y) = crcShifts k x ^^^ crcShifts k y := by
  induction k generalizing x y with
  | zero => rfl
  | succ k ih => simp only [crcShifts, crcShift_xor, ih]

theorem crcShifts_injective (k : Nat) : Function.Injective (crcShifts k) := by
  induction k with
  | zero => exact Function.injective_id
  | succ k ih => exact ih.comp crcShift_injective

/-- While the bits shifted out are 0 the steps are a plain shift. -/
theorem crcShifts_of_low_bits_zero (k : Nat) {x : Word} (h : ∀ i < k, x.getLsbD i = false) :
    crcShifts k x = x >>> k := by
  induction k generalizing x with
  | zero => simp [crcShifts]
  | succ k ih =>
    have low : ∀ i < k, (x >>> 1).getLsbD i = false := fun i hi => by
      simpa [BitVec.getLsbD_ushiftRight] using h (1 + i) (by omega)
    rw [crcShifts, crcShift_of_even (h 0 (by omega)), ih low, ← BitVec.shiftRight_add,
      Nat.add_comm 1 k]

/-! ## The table form -/

/-- Eight steps shift the upper 24 bits down unchanged, and the table holds what they make of the lowest 8. -/
theorem crcShifts_eight (x : Word) : crcShifts 8 x = (x >>> 8) ^^^ crcTab (x.extractLsb' 0 8) := by
  have htab : crcTab (x.extractLsb' 0 8) = crcShifts 8 ((x.extractLsb' 0 8).setWidth 32) := by
    simp [crcTab, crcUpdate]
  have hlow : ∀ i < 8, (x ^^^ (x.extractLsb' 0 8).setWidth 32).getLsbD i = false := fun i hi => by
    simp [hi, show i < 32 by omega]
  have hhigh : (x ^^^ (x.extractLsb' 0 8).setWidth 32) >>> 8 = x >>> 8 := by
    apply BitVec.eq_of_getLsbD_eq
    intro i _
    simp [BitVec.getLsbD_setWidth]
  calc crcShifts 8 x
      = crcShifts 8 (x ^^^ (x.extractLsb' 0 8).setWidth 32 ^^^ (x.extractLsb' 0 8).setWidth 32) := by
        rw [BitVec.xor_assoc, BitVec.xor_self, BitVec.xor_zero]
    _ = (x >>> 8) ^^^ crcTab (x.extractLsb' 0 8) := by
        rw [crcShifts_xor, crcShifts_of_low_bits_zero 8 hlow, hhigh, htab]

/-- Settles O19: a byte is added below bit 8, so it does not reach the part that is only shifted. -/
theorem crcTableFormEqualsBitForm : Obligations.CrcTableFormEqualsBitForm := by
  unfold Obligations.CrcTableFormEqualsBitForm
  intro acc b
  have hhigh : (acc ^^^ b.setWidth 32) >>> 8 = acc >>> 8 := by
    apply BitVec.eq_of_getLsbD_eq
    intro i _
    simp [BitVec.getLsbD_setWidth]
  rw [crcUpdate, crcShifts_eight, hhigh]

/-! ## The engine over bits -/

/-- The engine takes one bit (R130): `crcUpdate` for a single bit, see `crcUpdate_eq_crcBits`. -/
def crcBit (r : Word) (x : Bool) : Word := crcShift (r ^^^ (BitVec.ofBool x).setWidth 32)

/-- The engine takes a list of bits in order, as `crcAbsorb` does a list of bytes. -/
def crcBits (r : Word) (U : List Bool) : Word := U.foldl crcBit r

/-- Bits as a word, the first at bit 0. -/
def bitsWord (U : List Bool) : Word := (BitVec.ofBoolListLE U).setWidth 32

theorem getLsbD_bitsWord (U : List Bool) {i : Nat} (hi : i < 32) :
    (bitsWord U).getLsbD i = U.getD i false := by
  simp [bitsWord, hi]

theorem bitsWord_cons (x : Bool) (U : List Bool) :
    bitsWord (x :: U) = (BitVec.ofBool x).setWidth 32 ^^^ bitsWord U <<< 1 := by
  apply BitVec.eq_of_getLsbD_eq
  rintro (_ | i) hi <;>
    simp only [getLsbD_bitsWord _ hi, BitVec.getLsbD_xor, BitVec.getLsbD_shiftLeft,
      BitVec.getLsbD_setWidth, BitVec.getLsbD_ofBool]
  · simp
  · simp [getLsbD_bitsWord U (show i < 32 by omega), hi]

/-- Room for one more bit is made by shifting up, and a step takes it back. -/
theorem crcShift_bitsWord_shiftLeft {U : List Bool} (hU : U.length < 32) :
    crcShift (bitsWord U <<< 1) = bitsWord U := by
  rw [crcShift_of_even (by simp)]
  apply BitVec.eq_of_getLsbD_eq
  intro i hi
  by_cases h31 : i = 31
  · have hpast : (bitsWord U).getLsbD 31 = false := by
      rw [getLsbD_bitsWord U (by decide), List.getD_eq_default _ _ (by omega)]
    rw [h31, hpast]
    simp
  · simp only [BitVec.getLsbD_ushiftRight, BitVec.getLsbD_shiftLeft]
    simp [show 1 + i < 32 by omega]

/-- Up to 32 bits can be added to the register at once, before the shifts. -/
theorem crcBits_eq_crcShifts {U : List Bool} (hU : U.length ≤ 32) (r : Word) :
    crcBits r U = crcShifts U.length (r ^^^ bitsWord U) := by
  induction U generalizing r with
  | nil => exact (BitVec.xor_zero (x := r)).symm
  | cons x U ih =>
    have hlt : U.length < 32 := hU
    have hbit : crcShift (r ^^^ bitsWord (x :: U)) = crcBit r x ^^^ bitsWord U := by
      rw [bitsWord_cons, ← BitVec.xor_assoc, crcShift_xor, crcShift_bitsWord_shiftLeft hlt, crcBit]
    rw [List.length_cons, crcShifts, hbit]
    exact ih hlt.le (crcBit r x)

/-- At most 32 bits that differ leave different registers. -/
theorem eq_of_crcBits_eq {U V : List Bool} {r : Word} (hlen : U.length = V.length)
    (hU : U.length ≤ 32) (h : crcBits r U = crcBits r V) : U = V := by
  rw [crcBits_eq_crcShifts hU, crcBits_eq_crcShifts (hlen ▸ hU), ← hlen] at h
  have hword : bitsWord U = bitsWord V := BitVec.xor_right_inj r |>.mp (crcShifts_injective _ h)
  refine List.ext_getElem hlen fun i hiU hiV => ?_
  have hi : i < 32 := by omega
  have hbit : U.getD i false = V.getD i false := by
    rw [← getLsbD_bitsWord U hi, hword, getLsbD_bitsWord V hi]
  simpa [hiU, hiV] using hbit

/-- The bits that follow keep different registers different. -/
theorem crcBits_injective (U : List Bool) : Function.Injective (crcBits · U) := by
  induction U with
  | nil => exact Function.injective_id
  | cons x U ih =>
    exact ih.comp fun r q h => (BitVec.xor_left_inj _).mp (crcShift_injective h)

theorem crcBits_append (r : Word) (U V : List Bool) :
    crcBits r (U ++ V) = crcBits (crcBits r U) V := List.foldl_append ..

/-! ## Bytes as bits -/

@[simp] theorem length_bitsOfByte (b : Byte) : (bitsOfByte b).length = 8 := by
  simp [bitsOfByte]

theorem getD_bitsOfByte (b : Byte) (i : Nat) : (bitsOfByte b).getD i false = b.getLsbD i := by
  by_cases hi : i < 8
  · simp [bitsOfByte, hi]
  · simp [bitsOfByte, hi, BitVec.getLsbD_of_ge b i (by omega)]

theorem bitsWord_bitsOfByte (b : Byte) : bitsWord (bitsOfByte b) = b.setWidth 32 := by
  apply BitVec.eq_of_getLsbD_eq
  intro i hi
  rw [getLsbD_bitsWord _ hi, getD_bitsOfByte]
  simp [hi]

theorem bitsOfByte_injective : Function.Injective bitsOfByte := by
  intro a b h
  apply BitVec.eq_of_getLsbD_eq
  intro i _
  rw [← getD_bitsOfByte, h, getD_bitsOfByte]

@[simp] theorem bitsOf_cons (b : Byte) (L : List Byte) :
    bitsOf (b :: L) = bitsOfByte b ++ bitsOf L := rfl

@[simp] theorem bitsOf_append (L M : List Byte) : bitsOf (L ++ M) = bitsOf L ++ bitsOf M :=
  List.flatMap_append

@[simp] theorem length_bitsOf (L : List Byte) : (bitsOf L).length = 8 * L.length := by
  induction L with
  | nil => rfl
  | cons b L ih => simp [ih]; omega

theorem bitsOf_injective : Function.Injective bitsOf := by
  intro A
  induction A with
  | nil =>
    intro B h
    have hlen := congrArg List.length h
    simp only [length_bitsOf] at hlen
    exact (List.eq_nil_of_length_eq_zero (by simpa using hlen.symm)).symm
  | cons a A ih =>
    rintro (_ | ⟨b, B⟩) h
    · simpa using congrArg List.length h
    · obtain ⟨hbyte, hrest⟩ := List.append_inj h (by simp)
      rw [bitsOfByte_injective hbyte, ih hrest]

/-- The byte step takes the eight bits of its byte (R130, R131). -/
theorem crcUpdate_eq_crcBits (acc : Word) (b : Byte) :
    crcUpdate acc b = crcBits acc (bitsOfByte b) := by
  rw [crcBits_eq_crcShifts (by simp), bitsWord_bitsOfByte, length_bitsOfByte, crcUpdate]

theorem crcAbsorb_eq_crcBits (acc : Word) (L : List Byte) :
    crcAbsorb acc L = crcBits acc (bitsOf L) := by
  induction L generalizing acc with
  | nil => rfl
  | cons b L ih => rw [crcAbsorb_cons, ih, crcUpdate_eq_crcBits, bitsOf_cons, crcBits_append]

/-! ## Detection -/

/-- Lists that differ within 32 consecutive bits only have different checksums (R142). -/
theorem crc32_ne_of_differWithin32 {A B : List Byte} (hne : A ≠ B) (h : DifferWithin32 A B) :
    crc32 A ≠ crc32 B := by
  obtain ⟨pre, U, V, post, hA, hB, hlen, hU⟩ := h
  intro heq
  have hacc := crc32_inj_acc.mp heq
  rw [crcAbsorb_eq_crcBits, crcAbsorb_eq_crcBits, hA, hB] at hacc
  simp only [crcBits_append] at hacc
  have hUV : U = V := eq_of_crcBits_eq hlen hU (crcBits_injective post hacc)
  exact hne (bitsOf_injective (by rw [hA, hB, hUV]))

/-- A change of at most four consecutive bytes is a change within 32 bits. -/
theorem differWithin32_of_four_bytes (pre post : List Byte) {U V : List Byte}
    (hlen : U.length = V.length) (hU : U.length ≤ 4) :
    DifferWithin32 (pre ++ U ++ post) (pre ++ V ++ post) :=
  ⟨bitsOf pre, bitsOf U, bitsOf V, bitsOf post, by simp, by simp, by simp [hlen], by
    rw [length_bitsOf]; omega⟩

/-- Settles O20: up to the window the registers agree, in it they become different, and they stay so. -/
theorem burstsOf32BitsAreDetected : Obligations.BurstsOf32BitsAreDetected := by
  unfold Obligations.BurstsOf32BitsAreDetected
  refine ⟨fun A B _ hne h => crc32_ne_of_differWithin32 hne h, fun pre U V post hlen hU hne => ?_⟩
  exact crc32_ne_of_differWithin32 (by simpa using hne) (differWithin32_of_four_bytes pre post hlen hU)

end Sys2Proof.Machine
end

section
/-! PROOFS. The wire image of a header (spec/41_codec.md R150 to R154): each field is read back from its place,
so the codec's two directions undo each other, and what that means for sealed and corrupted frames
(spec/43_tx_seal.md R205). -/

namespace Sys2Proof.Machine

/-! ## Reading a field from its place -/

theorem des4At_append_right (e : Endian) (L M : List Byte) :
    des4At e (L ++ M) L.length = des4At e M 0 := by
  have h0 : byteAt (L ++ M) L.length = byteAt M 0 := byteAt_append_right L M 0
  simp only [des4At, h0, byteAt_append_right, Nat.zero_add]

theorem des4At_append_left (e : Endian) (L M : List Byte) (h : 4 ≤ L.length) :
    des4At e (L ++ M) 0 = des4At e L 0 := by
  simp only [des4At, Nat.zero_add]
  rw [byteAt_append_left L M 0 (by omega), byteAt_append_left L M 1 (by omega),
    byteAt_append_left L M 2 (by omega), byteAt_append_left L M 3 (by omega)]

/-- A value is read back from where its bytes stand (R17). -/
theorem des4At_of_eq_append {e : Endian} {buf L R : List Byte} {v : Word} {n : Nat}
    (hbuf : buf = L ++ ser4 e v ++ R) (hn : L.length = n) : des4At e buf n = v := by
  rw [hbuf, ← hn, List.append_assoc, des4At_append_right, des4At_append_left _ _ _ (by simp),
    des4At_ser4]

theorem typeWidth_of_one {p : Params} (h : p.typeBytes = .one) : p.typeWidth = 8 := by
  simp [Params.typeWidth, Params.typeSize, h]

/-- A 1-byte type that fits its byte is its low byte, zero-extended (R65). -/
theorem zextByte_lowByte_of_lt {t : Word} (h : t.toNat < 2 ^ 8) : zextByte (t.extractLsb' 0 8) = t := by
  apply BitVec.eq_of_toNat_eq
  simp [zextByte, BitVec.extractLsb'_toNat]
  omega

theorem desTypeAt_serType_append {p : Params} {t : Word} (h : t.toNat < 2 ^ p.typeWidth)
    (R : List Byte) : desTypeAt p (serType p t ++ R) = t := by
  cases hp : p.typeBytes
  case one =>
    rw [typeWidth_of_one hp] at h
    simpa [desTypeAt, serType, hp, byteAt] using zextByte_lowByte_of_lt h
  case four =>
    simpa [desTypeAt, serType, hp] using
      des4At_of_eq_append (L := []) (e := p.endian) (v := t) (R := R) rfl rfl

theorem headerFields_encodeHeader_append (p : Params) (h : Header)
    (hw : h.typ.toNat < 2 ^ p.typeWidth) (R : List Byte) :
    headerFields p (encodeHeader p h ++ R) = h := by
  have htyp : desTypeAt p (encodeHeader p h ++ R) = h.typ := by
    simpa [encodeHeader] using desTypeAt_serType_append hw _
  have hseq : des4At p.endian (encodeHeader p h ++ R) p.seqOff = h.seq :=
    des4At_of_eq_append (L := serType p h.typ)
      (R := ser4 p.endian h.len ++ ser4 p.endian h.csum ++ R)
      (by simp [encodeHeader]) (by simp [Params.seqOff])
  have hlen : des4At p.endian (encodeHeader p h ++ R) p.lenOff = h.len :=
    des4At_of_eq_append (L := serType p h.typ ++ ser4 p.endian h.seq)
      (R := ser4 p.endian h.csum ++ R) (by simp [encodeHeader]) (by simp [Params.lenOff])
  have hcsum : des4At p.endian (encodeHeader p h ++ R) p.csumOff = h.csum :=
    des4At_of_eq_append (L := serType p h.typ ++ ser4 p.endian h.seq ++ ser4 p.endian h.len)
      (R := R) (by simp [encodeHeader]) (by simp [Params.csumOff])
  rw [headerFields, htyp, hseq, hlen, hcsum]

/-- Decoding an encoded header gives it and the bytes after it (R154). -/
theorem decodeHeader_encodeHeader_append (p : Params) (h : Header)
    (hw : h.typ.toNat < 2 ^ p.typeWidth) (R : List Byte) :
    decodeHeader p (encodeHeader p h ++ R) = some (h, R) :=
  decodeHeader_eq_some.mpr ⟨by simp, (headerFields_encodeHeader_append p h hw R).symm,
    (List.drop_left' (length_encodeHeader p h)).symm⟩

/-! ## Writing a field back -/

theorem take_drop_four (L : List Byte) {o : Nat} (h : o + 4 ≤ L.length) :
    (L.drop o).take 4 = [byteAt L o, byteAt L (o + 1), byteAt L (o + 2), byteAt L (o + 3)] := by
  rw [byteAt_eq_getElem L o (by omega), byteAt_eq_getElem L (o + 1) (by omega),
    byteAt_eq_getElem L (o + 2) (by omega), byteAt_eq_getElem L (o + 3) (by omega),
    List.drop_eq_getElem_cons (by omega : o < L.length),
    List.drop_eq_getElem_cons (by omega : o + 1 < L.length),
    List.drop_eq_getElem_cons (by omega : o + 1 + 1 < L.length),
    List.drop_eq_getElem_cons (by omega : o + 1 + 1 + 1 < L.length)]
  rfl

theorem ser4_des4At (e : Endian) {L : List Byte} {o : Nat} (h : o + 4 ≤ L.length) :
    ser4 e (des4At e L o) = (L.drop o).take 4 := by
  rw [take_drop_four L h, des4At, ser4_des4]

theorem serType_desTypeAt (p : Params) {L : List Byte} (h : p.typeSize ≤ L.length) :
    serType p (desTypeAt p L) = L.take p.typeSize := by
  cases hp : p.typeBytes
  case one =>
    have hsize : p.typeSize = 1 := by simp [Params.typeSize, hp]
    rw [hsize] at h ⊢
    have hbyte : (zextByte (byteAt L 0)).extractLsb' 0 8 = byteAt L 0 := lowByte_zextByte _
    simp only [serType, desTypeAt, hp, hbyte]
    rw [byteAt_eq_getElem L 0 h, List.take_one, List.head?_eq_getElem?, List.getElem?_eq_getElem h]
    rfl
  case four =>
    have hsize : p.typeSize = 4 := by simp [Params.typeSize, hp]
    rw [hsize] at h ⊢
    simpa [serType, desTypeAt, hp] using ser4_des4At p.endian (L := L) (o := 0) (by omega)

/-- A decoded type fits the type field (R151). -/
theorem desTypeAt_lt (p : Params) (L : List Byte) : (desTypeAt p L).toNat < 2 ^ p.typeWidth := by
  cases hp : p.typeBytes
  case one =>
    have hbyte : (zextByte (byteAt L 0)).toNat = (byteAt L 0).toNat :=
      BitVec.toNat_setWidth_of_le (by decide)
    rw [typeWidth_of_one hp, desTypeAt, hp, hbyte]
    exact (byteAt L 0).isLt
  case four =>
    have hwidth : p.typeWidth = 32 := by simp [Params.typeWidth, Params.typeSize, hp]
    rw [hwidth]
    exact (desTypeAt p L).isLt

theorem typ_lt_of_decodeHeader {p : Params} {buf slice : List Byte} {h : Header}
    (hd : decodeHeader p buf = some (h, slice)) : h.typ.toNat < 2 ^ p.typeWidth := by
  obtain ⟨-, rfl, -⟩ := decodeHeader_eq_some.mp hd
  exact desTypeAt_lt p buf

/-- The first three fields of a buffer, and whatever checksum, are its first bytes and that checksum's. -/
theorem encodeHeader_headerFields_csum (p : Params) {buf : List Byte} (h : p.hdrSize ≤ buf.length)
    (c : Word) : encodeHeader p { headerFields p buf with csum := c } =
      buf.take p.csumOff ++ ser4 p.endian c := by
  have hsize : p.typeSize + 12 ≤ buf.length := h
  simp only [encodeHeader, headerFields, Params.seqOff, Params.lenOff, Params.csumOff]
  rw [serType_desTypeAt p (by omega), ser4_des4At p.endian (by omega),
    ser4_des4At p.endian (by omega), ← List.take_add, ← List.take_add]

/-- Encoding what a buffer decodes to gives its first `HDR_SIZE` bytes (R154). -/
theorem encodeHeader_headerFields (p : Params) {buf : List Byte} (h : p.hdrSize ≤ buf.length) :
    encodeHeader p (headerFields p buf) = buf.take p.hdrSize := by
  have hoff := csumOff_add_four p
  have hcsum : ser4 p.endian (headerFields p buf).csum = (buf.drop p.csumOff).take 4 :=
    ser4_des4At p.endian (by omega)
  rw [← hoff, List.take_add, ← hcsum]
  exact encodeHeader_headerFields_csum p h (headerFields p buf).csum

/-- A buffer is the encoding of what it decodes to, then the slice. -/
theorem encodeHeader_append_of_decodeHeader {p : Params} {buf slice : List Byte} {h : Header}
    (hd : decodeHeader p buf = some (h, slice)) : encodeHeader p h ++ slice = buf := by
  obtain ⟨hlen, rfl, rfl⟩ := decodeHeader_eq_some.mp hd
  rw [encodeHeader_headerFields p hlen, List.take_append_drop]

/-- Settles O26, from reading each field at its place and from writing it back there. -/
theorem headerCodecRoundTrip : Obligations.HeaderCodecRoundTrip := by
  unfold Obligations.HeaderCodecRoundTrip
  refine ⟨fun p h hw => ?decode, fun p buf hlen => ?encode, fun p buf => decodeHeader_eq_none.mpr⟩
  case decode => simpa using decodeHeader_encodeHeader_append p h hw []
  case encode =>
    have hd : decodeHeader p buf = some (headerFields p buf, buf.drop p.hdrSize) :=
      decodeHeader_eq_some.mpr ⟨hlen, rfl, rfl⟩
    exact ⟨_, _, hd, typ_lt_of_decodeHeader hd, encodeHeader_append_of_decodeHeader hd⟩

/-! ## Sealing and validating -/

/-- What `validate` says of a frame that has a whole header (R180). -/
theorem validate_of_decodeHeader {p : Params} {F P : List Byte} {h : Header}
    (hd : decodeHeader p F = some (h, P)) : validate p F =
      if h.typ = typeData ∧ P.length < h.len.toNat then .lenerr
      else if crc32 (checksumSpan p h P) = h.csum then .accept else .crcErr := by
  rw [validate, hd]

theorem validate_eq_accept {p : Params} {F P : List Byte} {h : Header}
    (hd : decodeHeader p F = some (h, P)) (hl : ¬(h.typ = typeData ∧ P.length < h.len.toNat))
    (hc : crc32 (checksumSpan p h P) = h.csum) : validate p F = .accept := by
  rw [validate_of_decodeHeader hd, if_neg hl, if_pos hc]

theorem validate_eq_crcErr {p : Params} {F P : List Byte} {h : Header}
    (hd : decodeHeader p F = some (h, P)) (hl : ¬(h.typ = typeData ∧ P.length < h.len.toNat))
    (hc : crc32 (checksumSpan p h P) ≠ h.csum) : validate p F = .crcErr := by
  rw [validate_of_decodeHeader hd, if_neg hl, if_neg hc]

/-- A frame that is accepted carries the checksum of its span (R180). -/
theorem crc32_of_validate_accept {p : Params} {F P : List Byte} {h : Header}
    (hd : decodeHeader p F = some (h, P)) (hv : validate p F = .accept) :
    crc32 (checksumSpan p h P) = h.csum := by
  rw [validate_of_decodeHeader hd] at hv
  split at hv
  · cases hv
  · split at hv
    · assumption
    · cases hv

/-- Payloads that agree on the covered bytes have the same span (R152). -/
theorem checksumSpan_congr (p : Params) {h : Header} {P Q : List Byte}
    (hPQ : h.typ = typeData → P.take h.len.toNat = Q.take h.len.toNat) :
    checksumSpan p h P = checksumSpan p h Q := by
  unfold checksumSpan
  split
  · next ht => rw [hPQ ht]
  · rfl

/-- Settles O37: the bytes that follow begin with the covered payload, so the span is the sealed one. -/
theorem sealedPacketsValidate : Obligations.SealedPacketsValidate := by
  unfold Obligations.SealedPacketsValidate
  intro p typ seq len P Q H hw hseal hprefix
  obtain ⟨henough, rfl⟩ := sealPacket_eq_some.mp hseal
  have hd := decodeHeader_encodeHeader_append p
    ⟨typ, seq, len, crc32 (checksumSpan p ⟨typ, seq, len, 0#32⟩ P)⟩ hw Q
  have hlenP : typ = typeData → len.toNat ≤ P.length := by simpa using henough
  have hcovered : typ = typeData → P.take len.toNat = Q.take len.toNat := fun ht => by
    have htake := List.prefix_iff_eq_take.mp (hprefix ht)
    rwa [List.length_take, min_eq_left (hlenP ht)] at htake
  have hlenQ : ¬(typ = typeData ∧ Q.length < len.toNat) := by
    rintro ⟨ht, hlt⟩
    have hle := (hprefix ht).length_le
    rw [List.length_take, min_eq_left (hlenP ht)] at hle
    omega
  exact ⟨validate_eq_accept hd hlenQ (congrArg crc32 (checksumSpan_congr p hcovered).symm), _, hd⟩

/-! ## Corruption -/

/-- The payload is exactly what the header covers. -/
def ExactPayload (h : Header) (P : List Byte) : Prop :=
  P.length = if h.typ = typeData then h.len.toNat else 0

theorem ExactPayload.not_lenerr {h : Header} {P : List Byte} (hP : ExactPayload h P) :
    ¬(h.typ = typeData ∧ P.length < h.len.toNat) := by
  rintro ⟨ht, hlt⟩
  rw [hP, if_pos ht] at hlt
  exact lt_irrefl _ hlt

/-- Then the span is the header with its checksum field zero and the whole payload. -/
theorem ExactPayload.checksumSpan_eq {h : Header} {P : List Byte} (hP : ExactPayload h P)
    (p : Params) : checksumSpan p h P = encodeZeroed p h ++ P := by
  unfold checksumSpan
  split
  · next ht => rw [List.take_of_length_le (by rw [hP, if_pos ht])]
  · next ht => rw [List.eq_nil_of_length_eq_zero (hP.trans (if_neg ht)), List.append_nil]

/-- The zeroed header determines the header up to its checksum. -/
theorem header_eq_of_encodeZeroed_eq {p : Params} {h k : Header}
    (hh : h.typ.toNat < 2 ^ p.typeWidth) (hk : k.typ.toNat < 2 ^ p.typeWidth)
    (hz : encodeZeroed p h = encodeZeroed p k) (hcsum : h.csum = k.csum) : h = k := by
  have hfields : ({ h with csum := 0#32 } : Header) = { k with csum := 0#32 } := by
    rw [← headerFields_encodeHeader_append p { h with csum := 0#32 } hh [],
      ← headerFields_encodeHeader_append p { k with csum := 0#32 } hk []]
    exact congrArg (headerFields p <| · ++ []) hz
  obtain ⟨typ, seq, len, csum⟩ := h
  obtain ⟨typ', seq', len', csum'⟩ := k
  simp_all

/-- Two frames with exact payloads and one checksum field that have the same span are the same. -/
theorem frame_eq_of_checksumSpan_eq {p : Params} {F G P Q : List Byte} {h k : Header}
    (hF : decodeHeader p F = some (h, P)) (hG : decodeHeader p G = some (k, Q))
    (hP : ExactPayload h P) (hQ : ExactPayload k Q) (hcsum : h.csum = k.csum)
    (hspan : checksumSpan p h P = checksumSpan p k Q) : F = G := by
  rw [hP.checksumSpan_eq, hQ.checksumSpan_eq] at hspan
  obtain ⟨hz, rfl⟩ := List.append_inj hspan (by simp)
  obtain rfl := header_eq_of_encodeZeroed_eq (typ_lt_of_decodeHeader hF) (typ_lt_of_decodeHeader hG)
    hz hcsum
  rw [← encodeHeader_append_of_decodeHeader hF, encodeHeader_append_of_decodeHeader hG]

/-- Settles O38: in (a) the span has changed within 32 bits and so has its checksum; in (b) the span is the
same and the checksum field is not. -/
theorem corruptedSealedFrameIsRejected : Obligations.CorruptedSealedFrameIsRejected := by
  unfold Obligations.CorruptedSealedFrameIsRejected
  intro p F G P Q h k hF hG hlen hv hP hne htyp hklen
  have haccept := crc32_of_validate_accept hF hv
  have hlenQ : Q.length = P.length := by
    rw [← encodeHeader_append_of_decodeHeader hF, ← encodeHeader_append_of_decodeHeader hG] at hlen
    simpa using hlen.symm
  have hQ : ExactPayload k Q := hlenQ.trans (by rw [htyp, hklen]; exact hP)
  refine ⟨fun hcsum hburst => ?span, fun hcsum hseq hpay => ?field⟩
  case span =>
    have hspan : checksumSpan p h P ≠ checksumSpan p k Q := fun hs =>
      hne (frame_eq_of_checksumSpan_eq hF hG hP hQ hcsum.symm hs)
    have hcrc := crc32_ne_of_differWithin32 hspan hburst
    exact validate_eq_crcErr hG hQ.not_lenerr fun hc => hcrc (by rw [haccept, hc, hcsum])
  case field =>
    obtain ⟨typ, seq, len, csum⟩ := h
    obtain ⟨typ', seq', len', csum'⟩ := k
    obtain ⟨rfl, rfl, rfl, rfl⟩ : typ' = typ ∧ seq' = seq ∧ len' = len ∧ Q = P :=
      ⟨htyp, hseq, hklen, hpay⟩
    refine validate_eq_crcErr hG hQ.not_lenerr fun hc => hcsum ?_
    exact hc.symm.trans haccept

end Sys2Proof.Machine
end

section
/-! PROOFS. The decoder and the encoder (spec/30_encoding.md R92, R100 to R102): each undoes the other, and what
the decoder reads but a rule ignores has no effect. -/

namespace Sys2Proof.Machine

/-! ## Decoding an encoding -/

/-- A `CMD` write decodes to the command of its code (R101). -/
theorem decode_packWord_cmd (m : Mode) (hi : BitVec 24) (op : Byte) :
    decode m (packWord true 4 (joinByte hi op)) = decodeCommand hi op := by
  rw [decode_packWord_true]
  simp [decodeWrite]

/-- A `DIN` write decodes to the row of the mode (R102). -/
theorem decode_packWord_din (m : Mode) (hi : BitVec 24) (b : Byte) :
    decode m (packWord true 6 (joinByte hi b)) = decodePush m hi b := by
  rw [decode_packWord_true]
  simp [decodeWrite]

/-- Settles O8, by the instruction: a command by its code, a push by its mode, every other one by the register
index. -/
theorem decodeOfEncodeIsIdentity : Obligations.DecodeOfEncodeIsIdentity := by
  unfold Obligations.DecodeOfEncodeIsIdentity
  intro i m hwf hmode
  cases i
  case cmdRsvd hi op =>
    have hop : 9 ≤ op.toNat := by simpa [Instr.wf, reservedOp] using hwf
    exact (decode_packWord_cmd m hi op).trans (decodeCommand_reserved hi hop)
  case wrRsvd a w =>
    have ha : 13 ≤ a.toNat := by simpa [Instr.wf, reservedIndex] using hwf
    exact (decode_packWord_true m a w).trans (decodeWrite_reserved m w ha)
  case rdRsvd a w =>
    have ha : 13 ≤ a.toNat := by simpa [Instr.wf, reservedIndex] using hwf
    exact (decode_packWord_false m a w).trans (decodeRead_reserved w ha)
  case pushIdle hi b | pushRaw hi b | pushRxh hi b | pushRxp hi b | pushTxp hi b =>
    obtain rfl := eq_of_beq hmode
    exact decode_packWord_din _ hi b
  case nop hi | crcStart hi | enc hi | enc0 hi | rxBegin hi | rxEnd hi | txBegin hi | txEnd hi | clr hi =>
    exact decode_packWord_cmd m hi _
  case wrHdrType w | wrHdrSeq w | wrHdrLen w | wrHdrCsum w | wrStatus w | wrDout w | wrCrcOut w |
      wrCrcAcc w | wrHcnt w | wrPcnt w | wrConfig w =>
    exact decode_packWord_true m _ w
  all_goals exact decode_packWord_false m _ _

/-! ## Encoding a decoding -/

/-- `i` is a well-formed row of mode `m` and is written as `T`: the statement of
`Obligations.EncodeOfDecodeIsIdentity` for one word. -/
def RowOf (m : Mode) (T : TxnWord) (i : Instr) : Prop :=
  i.wf = true ∧ i.inMode m = true ∧ encode i = T

theorem rowOf_decodeCommand (m : Mode) (hi : BitVec 24) (op : Byte) :
    RowOf m (packWord true 4 (joinByte hi op)) (decodeCommand hi op) := by
  rcases commandCode_cases op with rfl | rfl | rfl | rfl | rfl | rfl | rfl | rfl | rfl | hop
  case inr.inr.inr.inr.inr.inr.inr.inr.inr =>
    rw [decodeCommand_reserved hi hop]
    exact ⟨decide_eq_true hop, rfl, rfl⟩
  all_goals exact ⟨rfl, rfl, rfl⟩

theorem rowOf_decodePush (m : Mode) (hi : BitVec 24) (b : Byte) :
    RowOf m (packWord true 6 (joinByte hi b)) (decodePush m hi b) := by
  cases m <;> exact ⟨rfl, rfl, rfl⟩

/-- A register index is one of the 13 defined ones or reserved (R61). -/
theorem registerIndex_cases (a : RegIndex) : 13 ≤ a.toNat ∨ a = 0#6 ∨ a = 1#6 ∨ a = 2#6 ∨ a = 3#6 ∨
    a = 4#6 ∨ a = 5#6 ∨ a = 6#6 ∨ a = 7#6 ∨ a = 8#6 ∨ a = 9#6 ∨ a = 10#6 ∨ a = 11#6 ∨ a = 12#6 := by
  bv_omega

theorem rowOf_decodeWrite (m : Mode) (a : RegIndex) (w : Word) :
    RowOf m (packWord true a w) (decodeWrite m a w) := by
  rcases registerIndex_cases a with ha | rfl | rfl | rfl | rfl | rfl | rfl | rfl | rfl | rfl | rfl |
    rfl | rfl | rfl
  case inl =>
    rw [decodeWrite_reserved m w ha]
    exact ⟨decide_eq_true ha, rfl, rfl⟩
  case inr.inr.inr.inr.inr.inl =>
    have hrow := rowOf_decodeCommand m (highBits w) (lowByte w)
    rwa [joinByte_parts] at hrow
  case inr.inr.inr.inr.inr.inr.inr.inl =>
    have hrow := rowOf_decodePush m (highBits w) (lowByte w)
    rwa [joinByte_parts] at hrow
  all_goals exact ⟨rfl, rfl, rfl⟩

theorem rowOf_decodeRead (m : Mode) (a : RegIndex) (w : Word) :
    RowOf m (packWord false a w) (decodeRead a w) := by
  rcases registerIndex_cases a with ha | rfl | rfl | rfl | rfl | rfl | rfl | rfl | rfl | rfl | rfl |
    rfl | rfl | rfl
  case inl =>
    rw [decodeRead_reserved w ha]
    exact ⟨decide_eq_true ha, rfl, rfl⟩
  all_goals exact ⟨rfl, rfl, rfl⟩

/-- Settles O9: a word is its three fields, and every row keeps them all. -/
theorem encodeOfDecodeIsIdentity : Obligations.EncodeOfDecodeIsIdentity := by
  unfold Obligations.EncodeOfDecodeIsIdentity
  intro m T
  change RowOf m T (decode m T)
  have hT := packWord_fields T
  rw [decode]
  cases hwe : weField T <;> rw [hwe] at hT
  case true => simpa [hT] using rowOf_decodeWrite m (indexField T) (wdataField T)
  case false => simpa [hT] using rowOf_decodeRead m (indexField T) (wdataField T)

/-! ## Words written out -/

/-- Settles O7: each word is packed from the fields of its row. -/
theorem writtenOutWordsDecode : Obligations.WrittenOutWordsDecode := by
  unfold Obligations.WrittenOutWordsDecode
  exact ⟨decode_cmdTxn .idle 4#8, decode_readTxn .idle 5#6, decode_dinWord .raw 0#24 0x31#8,
    decode_dinWord .rxp 0#24 0x31#8, decode_writeWord .txp 1#6 0xDEADBEEF#32,
    decode_cmdTxn .txp 9#8, decode_cmdWord .txp 0xABCDEF#24 0#8, decode_writeWord .idle 13#6 1#32,
    decode_readTxn .idle 63#6, decode_readTxn .idle 7#6⟩

/-! ## What is ignored -/

theorem exec_decodeRead_wdata (a : RegIndex) (w w' : Word) (s : State) :
    exec (decodeRead a w) s = exec (decodeRead a w') s := by
  rcases registerIndex_cases a with ha | rfl | rfl | rfl | rfl | rfl | rfl | rfl | rfl | rfl | rfl |
    rfl | rfl | rfl
  case inl =>
    rw [decodeRead_reserved w ha, decodeRead_reserved w' ha]
    rfl
  all_goals rfl

theorem exec_decodeCommand_highBits (hi hi' : BitVec 24) (op : Byte) (s : State) :
    exec (decodeCommand hi op) s = exec (decodeCommand hi' op) s := by
  rcases commandCode_cases op with rfl | rfl | rfl | rfl | rfl | rfl | rfl | rfl | rfl | hop
  case inr.inr.inr.inr.inr.inr.inr.inr.inr =>
    rw [decodeCommand_reserved hi hop, decodeCommand_reserved hi' hop]
    rfl
  all_goals rfl

/-- Settles O11: a read looks at the index alone, a command and a push at their byte, and a 1-byte type keeps
the low byte. -/
theorem ignoredBitsHaveNoEffect : Obligations.IgnoredBitsHaveNoEffect := by
  unfold Obligations.IgnoredBitsHaveNoEffect
  intro T T' s hwe hi
  have read (hr : weField T = false) : stepWord T s = stepWord T' s := by
    rw [stepWord_of_not_weField hr, stepWord_of_not_weField (hwe ▸ hr), hi]
    exact exec_decodeRead_wdata ..
  refine ⟨read, fun ha hb => ?_⟩
  cases hw : weField T
  case false => exact read hw
  case true =>
    have hw' : weField T' = true := hwe ▸ hw
    have hbyte : lowByte (wdataField T) = lowByte (wdataField T') := hb
    rcases ha with h4 | h6 | ⟨h0, hone⟩
    · rw [stepWord_command (commandOf_eq_some.mpr ⟨⟨hw, h4⟩, hbyte⟩),
        stepWord_command (commandOf_eq_some.mpr ⟨⟨hw', hi ▸ h4⟩, rfl⟩)]
      exact exec_decodeCommand_highBits ..
    · rw [stepWord_pushedByte (pushedByte_eq_some.mpr ⟨⟨hw, h6⟩, hbyte⟩),
        stepWord_pushedByte (pushedByte_eq_some.mpr ⟨⟨hw', hi ▸ h6⟩, rfl⟩)]
    · have htrunc : truncType s.params (wdataField T) = truncType s.params (wdataField T') := by
        rw [truncType_of_one hone, truncType_of_one hone, hb]
      rw [stepWord_of_weField hw, stepWord_of_weField hw', ← hi, h0]
      change exec (.wrHdrType _) s = exec (.wrHdrType _) s
      rw [exec_wrHdrType, exec_wrHdrType, htrunc]

/-- Settles O46: only the read of index 7 is more than a value. -/
theorem onlyDoutReadsChangeState : Obligations.OnlyDoutReadsChangeState := by
  unfold Obligations.OnlyDoutReadsChangeState
  intro T s hwe h7
  rw [stepWord_of_not_weField hwe]
  exact exec_decodeRead_pure _ s (by bv_omega)

/-! ## The rows of a push -/

/-- Settles O42: all five are the `DIN` write of their byte, and `MODE` selects what it does. -/
theorem pushRowsAreOneTransaction : Obligations.PushRowsAreOneTransaction := by
  unfold Obligations.PushRowsAreOneTransaction
  refine fun hi b s => ⟨rfl, rfl, rfl, rfl, fun i hmem => ?_⟩
  have hword : stepWord (packWord true 6 (joinByte hi b)) s = pushByte b s :=
    stepWord_pushedByte (by simp [pushedByte]) s
  simp only [List.mem_cons, List.not_mem_nil, or_false] at hmem
  rcases hmem with rfl | rfl | rfl | rfl | rfl <;> exact hword.symm

end Sys2Proof.Machine
end

section
/-! PROOFS. A step and a sequence of steps (spec/20_memory.md R60, R70): what the port carries decides what the
step is, every step completes (spec/44_control.md R232), and the inputs still to come have no influence. -/

namespace Sys2Proof.Machine

/-! ## What the port carries -/

/-- Settles O1: with `sel` alone the step is the transaction presented. -/
theorem stepExecutesPresentedTransaction : Obligations.StepExecutesPresentedTransaction := by
  unfold Obligations.StepExecutesPresentedTransaction
  intro s T rest h
  have hstep : step s = stepWord T { s with inbox := rest } := step_cons h
  exact ⟨hstep, hstep⟩

/-- Settles O2: with `rst` the step is a reset, whatever else the port carries. -/
theorem resetStepOverridesThePort : Obligations.ResetStepOverridesThePort := by
  unfold Obligations.ResetStepOverridesThePort
  intro s sel T rest h
  rw [step_cons h, stepInput_rst]
  rfl

/-- Settles O3: without `rst` and `sel` the step is none, and so it is with an empty queue. -/
theorem stepWithoutTransactionChangesNothing : Obligations.StepWithoutTransactionChangesNothing := by
  unfold Obligations.StepWithoutTransactionChangesNothing
  refine fun s => ⟨fun T rest h => ?_, step_nil⟩
  rw [step_cons h, stepInput_idle]

/-! ## Every step and every transaction completes -/

/-- Also a push that is not of the mode's row, and an operand out of its range, completes (R232). -/
theorem exec_completes (i : Instr) (s : State) : ∃ t, exec i s = .next t := by
  cases i
  case wrHdrType | wrHdrSeq | wrHdrLen | wrHdrCsum | enc | enc0 => exact ⟨_, unlessLocked_eq _ s⟩
  case pushIdle _ b | pushRaw _ b | pushRxh _ b | pushRxp _ b | pushTxp _ b =>
    obtain ⟨u, hu, -⟩ := pushByte_sticky b s
    exact ⟨_, hu⟩
  case rxEnd => exact ⟨_, execRxEnd_eq s⟩
  case txEnd => exact ⟨_, execTxEnd_eq s⟩
  case pop => exact execPop_completes s
  all_goals exact ⟨_, rfl⟩

theorem stepInput_completes (x : PortInput) (s : State) : ∃ t, stepInput x s = .next t := by
  obtain ⟨rst, sel, T⟩ := x
  cases rst
  case true => exact ⟨_, stepInput_rst sel T s⟩
  case false =>
    cases sel
    case false => exact ⟨_, stepInput_idle T s⟩
    case true => exact stepWord_completes T s

/-- Settles O4: a step is a reset, a transaction or nothing, and all of these complete. -/
theorem everyStepAndTransactionCompletes : Obligations.EveryStepAndTransactionCompletes := by
  unfold Obligations.EveryStepAndTransactionCompletes
  refine ⟨fun s => ?_, exec_completes⟩
  cases h : s.inbox
  case nil => exact ⟨s, step_nil h⟩
  case cons x rest => exact step_cons h ▸ stepInput_completes x { s with inbox := rest }

/-! ## The inputs still to come have no influence -/

/-- The state with other inputs still to come. -/
def withInbox (q : List PortInput) (s : State) : State := { s with inbox := q }

/-- What a result becomes when its next state is changed. -/
def mapNext (f : State → State) : Result → Result
  | .next t => .next (f t)
  | .fault r => .fault r
  | .refused r => .refused r

theorem mapNext_withInbox_finishWrite (q : List PortInput) (s : State) :
    mapNext (withInbox q) (finishWrite s) = finishWrite (withInbox q s) := rfl

theorem unlessLocked_withInbox (q : List PortInput) (a s : State) :
    unlessLocked (withInbox q a) (withInbox q s) = mapNext (withInbox q) (unlessLocked a s) := by
  rw [unlessLocked_eq, unlessLocked_eq, mapNext_withInbox_finishWrite]
  change finishWrite (if headerLocked s.mode then _ else _) = _
  split <;> rfl

theorem pushByte_withInbox (q : List PortInput) (b : Byte) (s : State) :
    pushByte b (withInbox q s) = mapNext (withInbox q) (pushByte b s) := by
  obtain ⟨m, hm⟩ : ∃ m, s.mode = m := ⟨_, rfl⟩
  have hm' : (withInbox q s).mode = m := hm
  cases m
  case idle => rw [pushByte_idle hm, pushByte_idle hm']; rfl
  case raw => rw [pushByte_raw hm, pushByte_raw hm']; rfl
  case rxh =>
    by_cases hn : s.hcnt.toNat + 1 = s.params.hdrSize
    · rw [pushByte_rxh_last hm hn, pushByte_rxh_last hm' hn]; rfl
    · rw [pushByte_rxh hm hn, pushByte_rxh hm' hn]; rfl
  case rxp | txp =>
    rw [pushByte_payload (s := s) (by simp [hm]), pushByte_payload (by simp [hm']),
      mapNext_withInbox_finishWrite]
    change finishWrite (countByte (if payloadMissing s then _ else _)) = _
    split <;> rfl

theorem execRxEnd_withInbox (q : List PortInput) (s : State) :
    execRxEnd (withInbox q s) = mapNext (withInbox q) (execRxEnd s) := by
  rw [execRxEnd_eq, execRxEnd_eq, mapNext_withInbox_finishWrite]
  change finishWrite (if rxOpen s.mode then _ else _) = _
  split <;> rfl

theorem execTxEnd_withInbox (q : List PortInput) (s : State) :
    execTxEnd (withInbox q s) = mapNext (withInbox q) (execTxEnd s) := by
  rw [execTxEnd_eq, execTxEnd_eq, mapNext_withInbox_finishWrite]
  change finishWrite (if s.mode = .txp then closeFlow (if payloadMissing s then _ else _) else _) = _
  split
  · split <;> rfl
  · rfl

theorem execPop_withInbox (q : List PortInput) (s : State) :
    execPop (withInbox q s) = mapNext (withInbox q) (execPop s) := by
  change (if s.rptr < s.hcnt then _ else _) = mapNext (withInbox q) (if s.rptr < s.hcnt then _ else _)
  split <;> rfl

/-- A transaction neither reads nor changes the inputs still to come. -/
theorem exec_withInbox (q : List PortInput) (i : Instr) (s : State) :
    exec i (withInbox q s) = mapNext (withInbox q) (exec i s) := by
  cases i
  case wrHdrType w =>
    exact unlessLocked_withInbox q (hostWrote { s with hdrType := truncType s.params w }) s
  case wrHdrSeq w => exact unlessLocked_withInbox q (hostWrote { s with hdrSeq := w }) s
  case wrHdrLen w => exact unlessLocked_withInbox q (hostWrote { s with hdrLen := w }) s
  case wrHdrCsum w => exact unlessLocked_withInbox q (hostWrote { s with hdrCsum := w }) s
  case enc => exact unlessLocked_withInbox q (loadHbuf (encodeHeader s.params s.header) s) s
  case enc0 => exact unlessLocked_withInbox q (loadHbuf (encodeZeroed s.params s.header) s) s
  case pushIdle _ b | pushRaw _ b | pushRxh _ b | pushRxp _ b | pushTxp _ b =>
    exact pushByte_withInbox q b s
  case rxEnd => exact execRxEnd_withInbox q s
  case txEnd => exact execTxEnd_withInbox q s
  case pop => exact execPop_withInbox q s
  all_goals rfl

theorem stepWord_withInbox {T : TxnWord} {s t : State} (h : stepWord T s = .next t)
    (q : List PortInput) : stepWord T (withInbox q s) = .next (withInbox q t) :=
  (exec_withInbox q (decode s.mode T) s).trans (congrArg (mapNext (withInbox q)) h)

theorem stepWord_inbox {T : TxnWord} {s t : State} (h : stepWord T s = .next t) :
    t.inbox = s.inbox := by
  have hsame : stepWord T s = .next (withInbox s.inbox t) := stepWord_withInbox h s.inbox
  have heq : t = withInbox s.inbox t := Host.Outcome.next.inj (h.symm.trans hsame)
  have hinbox := congrArg State.inbox heq
  exact hinbox

/-! ## Sequences -/

theorem runTxns_completes (Ts : List TxnWord) (s : State) :
    ∃ t reads, runTxns Ts s = .next (t, reads) ∧ reads.length = Ts.length := by
  induction Ts generalizing s with
  | nil => exact ⟨s, [], rfl, rfl⟩
  | cons T Ts ih =>
    obtain ⟨t, ht⟩ := stepWord_completes T s
    obtain ⟨u, reads, hu, hlen⟩ := ih t
    exact ⟨u, t.rdata :: reads, runTxns_cons ht hu, by simp [hlen]⟩

/-- A sequence runs as its first transaction and then the rest. -/
theorem runTxns_cons_inv {T : TxnWord} {Ts : List TxnWord} {s u : State} {reads : List Word}
    (h : runTxns (T :: Ts) s = .next (u, reads)) :
    ∃ t reads', stepWord T s = .next t ∧ runTxns Ts t = .next (u, reads') ∧
      reads = t.rdata :: reads' := by
  obtain ⟨t, ht⟩ := stepWord_completes T s
  obtain ⟨u', reads', hu, -⟩ := runTxns_completes Ts t
  have heq : (u', t.rdata :: reads') = (u, reads) :=
    Host.Outcome.next.inj ((runTxns_cons ht hu).symm.trans h)
  obtain ⟨rfl, rfl⟩ := Prod.mk.inj heq
  exact ⟨t, reads', ht, hu, rfl⟩

/-- A sequence may be cut anywhere (R70). -/
theorem runTxns_append {As Bs : List TxnWord} {s t u : State} {ra rb : List Word}
    (hA : runTxns As s = .next (t, ra)) (hB : runTxns Bs t = .next (u, rb)) :
    runTxns (As ++ Bs) s = .next (u, ra ++ rb) := by
  induction As generalizing s ra with
  | nil =>
    obtain ⟨rfl, rfl⟩ := Prod.mk.inj (Host.Outcome.next.inj hA)
    exact hB
  | cons T As ih =>
    obtain ⟨s', ra', hT, hrest, rfl⟩ := runTxns_cons_inv hA
    exact runTxns_cons hT (ih hrest)

theorem run_succ {s t : State} (h : step s = .next t) (n : Nat) :
    Host.Core.run core (n + 1) s = Host.Core.run core n t := by
  have hcore : core.step s = .next t := h
  simp only [Host.Core.run, hcore]

/-- Transactions waiting on the port run as `runTxns` does, and what waits behind them stays (R70). -/
theorem run_waiting (Ts : List TxnWord) (s : State) (rest : List PortInput) :
    ∃ t reads, runTxns Ts (withInbox rest s) = .next (t, reads) ∧
      Host.Core.run core Ts.length (withInbox (Ts.map presentTxn ++ rest) s) = .next t ∧
      reads.length = Ts.length ∧ t.inbox = rest := by
  induction Ts generalizing s with
  | nil => exact ⟨withInbox rest s, [], rfl, rfl, rfl, rfl⟩
  | cons T Ts ih =>
    obtain ⟨t, ht⟩ := stepWord_completes T (withInbox rest s)
    have hkept : withInbox rest t = t := congrArg (withInbox · t) (stepWord_inbox ht).symm
    obtain ⟨u, reads, hrun, hcore, hlen, hin⟩ := ih t
    rw [hkept] at hrun
    refine ⟨u, t.rdata :: reads, runTxns_cons ht hrun, ?_, by simp [hlen], hin⟩
    have hstep : step (withInbox ((T :: Ts).map presentTxn ++ rest) s) =
        .next (withInbox (Ts.map presentTxn ++ rest) t) :=
      (step_cons rfl).trans (stepWord_withInbox ht (Ts.map presentTxn ++ rest))
    exact (run_succ hstep Ts.length).trans hcore

/-- Settles O5, by induction over the sequence for what waits on the port, and for where it is cut. -/
theorem sequenceIsFoldOfSteps : Obligations.SequenceIsFoldOfSteps := by
  unfold Obligations.SequenceIsFoldOfSteps
  exact ⟨run_waiting, fun As Bs s t u ra rb hA hB => runTxns_append hA hB⟩

end Sys2Proof.Machine
end

section
/-! PROOFS. What one transaction can do, said once: `TxnEffect` has a case for each accepted transaction and for
each kind of refused one, with its whole effect. What every transaction leaves unchanged is then read off the
cases (spec/10_state.md R21 to R35, spec/70_reset_and_hazards.md R352). -/

namespace Sys2Proof.Machine

/-! ## A host write to a header register -/

/-- The header after a host write to header register 0 to 3 (R156 to R159). -/
def writtenHeader (p : Params) (T : TxnWord) (h : Header) : Header :=
  match (indexField T).toNat with
  | 0 => { h with typ := truncType p (wdataField T) }
  | 1 => { h with seq := wdataField T }
  | 2 => { h with len := wdataField T }
  | _ => { h with csum := wdataField T }

theorem stepWord_headerWrite {T : TxnWord} (hw : writesHeader T = true) (s : State) : stepWord T s =
    unlessLocked (hostWrote (setHeader (writtenHeader s.params T s.header) s)) s := by
  obtain ⟨hwe, hi⟩ := writesHeader_iff.mp hw
  rw [stepWord_of_weField hwe]
  unfold decodeWrite writtenHeader
  interval_cases (indexField T).toNat <;> rfl

/-! ## What a word asks for -/

/-- The answers of the questions of Sys2Proof/Safety.lean: the command, the byte pushed, and whether a header
register is written. -/
structure Asks (T : TxnWord) (command pushed : Option Byte) (headerWrite : Bool) : Prop where
  command : commandOf T = command
  pushed : pushedByte T = pushed
  headerWrite : writesHeader T = headerWrite

/-! ## The effects -/

/-- What transaction `T` can make of `s`, before `rdata` is set. -/
inductive TxnEffect (s : State) (T : TxnWord) : State → Prop where
  /-- A read other than `POP`, an ignored write. -/
  | plain (ask : Asks T none none false) : TxnEffect s T s
  | nop (ask : Asks T (some 0#8) none false) : TxnEffect s T s
  /-- `ENC`, `ENC0`, `RX_END`, `TX_END` out of place, or a reserved code (R302, R222). -/
  | misusedCommand (m : Misuse) (op : Byte) (ask : Asks T (some op) none false)
      (hop : op ∉ [0#8, 1#8, 4#8, 6#8, 8#8]) (hseal : op = 7#8 → s.mode ≠ .txp) :
      TxnEffect s T (raiseMisuse m s)
  | misusedPush (b : Byte) (ask : Asks T none (some b) false) (hm : s.mode = .idle) :
      TxnEffect s T (raiseMisuse .seq s)
  | misusedHeaderWrite (ask : Asks T none none true) (hl : headerLocked s.mode = true) :
      TxnEffect s T (raiseMisuse .seq s)
  | underrun (ask : Asks T none none false) (hlt : ¬s.rptr < s.hcnt) :
      TxnEffect s T (raiseMisuse .underrun s)
  | pop (ask : Asks T none none false) (hlt : s.rptr < s.hcnt) :
      TxnEffect s T { s with rptr := s.rptr + 1#5 }
  | headerWrite (ask : Asks T none none true) (hl : headerLocked s.mode = false) :
      TxnEffect s T (hostWrote (setHeader (writtenHeader s.params T s.header) s))
  | crcStart (ask : Asks T (some 1#8) none false) :
      TxnEffect s T { clearFlowFlags s with acc := crcInit, pcnt := 0#32, mode := .raw }
  | encode (op : Byte) (ask : Asks T (some op) none false) (hop : op = 2#8 ∨ op = 3#8)
      (hl : headerLocked s.mode = false) (h : Header) :
      TxnEffect s T (loadHbuf (encodeHeader s.params h) s)
  | rxBegin (ask : Asks T (some 4#8) none false) : TxnEffect s T (openHeaderFlow crcInit .rxh s)
  | rxEnd (ask : Asks T (some 5#8) none false) (hm : s.mode = .rxh ∨ s.mode = .rxp) :
      TxnEffect s T (closeFlow (setVerdict (rxVerdict s) s))
  | txBegin (ask : Asks T (some 6#8) none false) : TxnEffect s T
      (openHeaderFlow (crcAbsorb crcInit (encodeZeroed s.params s.header)) .txp s)
  | txEndMissing (ask : Asks T (some 7#8) none false) (hm : s.mode = .txp)
      (hp : payloadMissing s = true) : TxnEffect s T (closeFlow { s with lenerr := true })
  | txEndSeal (ask : Asks T (some 7#8) none false) (hm : s.mode = .txp)
      (hp : payloadMissing s = false) :
      TxnEffect s T (closeFlow (sealHeader { s with lenerr := false }))
  | clr (ask : Asks T (some 8#8) none false) : TxnEffect s T (resetBlock s)
  | pushRaw (b : Byte) (ask : Asks T none (some b) false) (hm : s.mode = .raw) :
      TxnEffect s T { s with acc := crcUpdate s.acc b, pcnt := satInc s.pcnt }
  | pushHeader (b : Byte) (ask : Asks T none (some b) false) (hm : s.mode = .rxh)
      (hn : s.hcnt.toNat + 1 ≠ s.params.hdrSize) : TxnEffect s T { s with
        hbuf := s.hbuf.set s.hcnt.toNat b,
        acc := crcUpdate s.acc (coveredHeaderByte s.params s.hcnt.toNat b), hcnt := s.hcnt + 1#5 }
  | pushHeaderLast (b : Byte) (ask : Asks T none (some b) false) (hm : s.mode = .rxh)
      (hn : s.hcnt.toNat + 1 = s.params.hdrSize) : TxnEffect s T
        { setHeader (headerFields s.params (s.hbuf.set s.hcnt.toNat b)) s with
          hbuf := s.hbuf.set s.hcnt.toNat b,
          acc := crcUpdate s.acc (coveredHeaderByte s.params s.hcnt.toNat b),
          hcnt := s.hcnt + 1#5, rxhdr := true, mode := .rxp }
  | pushCovered (b : Byte) (ask : Asks T none (some b) false) (hm : s.mode = .rxp ∨ s.mode = .txp)
      (hp : payloadMissing s = true) :
      TxnEffect s T { s with acc := crcUpdate s.acc b, pcnt := satInc s.pcnt }
  | pushExtra (b : Byte) (ask : Asks T none (some b) false) (hm : s.mode = .rxp ∨ s.mode = .txp)
      (hp : payloadMissing s = false) :
      TxnEffect s T { s with extra := true, pcnt := satInc s.pcnt }

/-- `t` is an effect of `T` on `s`, with some `rdata`. -/
def Effected (s : State) (T : TxnWord) (t : State) : Prop :=
  ∃ u v, TxnEffect s T u ∧ t = { u with rdata := v }

theorem effected_of_finishWrite {s t u : State} {T : TxnWord} (h : finishWrite u = .next t)
    (hu : TxnEffect s T u) : Effected s T t :=
  ⟨u, 0#32, hu, finishWrite_eq_next.mp h⟩

theorem effected_encode {T : TxnWord} {op : Byte} {s t : State} (ask : Asks T (some op) none false)
    (hop : op = 2#8 ∨ op = 3#8) (h : Header)
    (hs : unlessLocked (loadHbuf (encodeHeader s.params h) s) s = .next t) : Effected s T t := by
  cases hl : headerLocked s.mode
  · rw [unlessLocked_unlocked hl] at hs
    exact effected_of_finishWrite hs (.encode op ask hop hl h)
  · rw [unlessLocked_locked hl] at hs
    exact effected_of_finishWrite hs (.misusedCommand .seq op ask
      (by rcases hop with rfl | rfl <;> decide) (by rcases hop with rfl | rfl <;> simp))

theorem effected_rxEnd {T : TxnWord} {s t : State} (ask : Asks T (some 5#8) none false)
    (hs : execRxEnd s = .next t) : Effected s T t := by
  rw [execRxEnd_eq] at hs
  cases hm : rxOpen s.mode <;> rw [hm] at hs
  · exact effected_of_finishWrite hs (.misusedCommand .seq 5#8 ask (by decide) (by simp))
  · exact effected_of_finishWrite hs (.rxEnd ask ((rxOpen_iff s.mode).mp hm))

theorem effected_txEnd {T : TxnWord} {s t : State} (ask : Asks T (some 7#8) none false)
    (hs : execTxEnd s = .next t) : Effected s T t := by
  rw [execTxEnd_eq] at hs
  by_cases hm : s.mode = .txp
  · rw [if_pos hm] at hs
    cases hp : payloadMissing s <;> rw [hp] at hs
    · exact effected_of_finishWrite hs (.txEndSeal ask hm hp)
    · exact effected_of_finishWrite hs (.txEndMissing ask hm hp)
  · rw [if_neg hm] at hs
    exact effected_of_finishWrite hs (.misusedCommand .seq 7#8 ask (by decide) fun _ => hm)

theorem effected_command {T : TxnWord} {op : Byte} {s t : State} (ask : Asks T (some op) none false)
    (hs : stepWord T s = .next t) : Effected s T t := by
  rcases stepWord_command_cases ask.command s with ⟨rfl, e⟩ | ⟨rfl, e⟩ | ⟨rfl, e⟩ | ⟨rfl, e⟩ | ⟨rfl, e⟩ |
    ⟨rfl, e⟩ | ⟨rfl, e⟩ | ⟨rfl, e⟩ | ⟨rfl, e⟩ | ⟨hop, e⟩ <;> rw [e] at hs
  · exact effected_of_finishWrite hs (.nop ask)
  · exact effected_of_finishWrite hs (.crcStart ask)
  · exact effected_encode ask (.inl rfl) s.header hs
  · exact effected_encode ask (.inr rfl) { s.header with csum := 0#32 } hs
  · exact effected_of_finishWrite hs (.rxBegin ask)
  · exact effected_rxEnd ask hs
  · exact effected_of_finishWrite hs (.txBegin ask)
  · exact effected_txEnd ask hs
  · exact effected_of_finishWrite hs (.clr ask)
  · have hne := ne_of_nine_le_toNat hop
    exact effected_of_finishWrite hs (.misusedCommand .cmd op ask (by simp [hne]) (by simp [hne]))

theorem effected_push {T : TxnWord} {b : Byte} {s t : State} (ask : Asks T none (some b) false)
    (hs : stepWord T s = .next t) : Effected s T t := by
  rw [stepWord_pushedByte ask.pushed] at hs
  cases hm : s.mode
  case idle =>
    rw [pushByte_idle hm] at hs
    exact effected_of_finishWrite hs (.misusedPush b ask hm)
  case raw =>
    rw [pushByte_raw hm] at hs
    exact effected_of_finishWrite hs (.pushRaw b ask hm)
  case rxh =>
    by_cases hn : s.hcnt.toNat + 1 = s.params.hdrSize
    · rw [pushByte_rxh_last hm hn] at hs
      exact effected_of_finishWrite hs (.pushHeaderLast b ask hm hn)
    · rw [pushByte_rxh hm hn] at hs
      exact effected_of_finishWrite hs (.pushHeader b ask hm hn)
  case rxp | txp =>
    have hm' : s.mode = .rxp ∨ s.mode = .txp := by simp [hm]
    cases hmiss : payloadMissing s
    · rw [pushByte_extra hm' hmiss] at hs
      exact effected_of_finishWrite hs (.pushExtra b ask hm' hmiss)
    · rw [pushByte_covered hm' hmiss] at hs
      exact effected_of_finishWrite hs (.pushCovered b ask hm' hmiss)

theorem effected_headerWrite {T : TxnWord} {s t : State} (ask : Asks T none none true)
    (hs : stepWord T s = .next t) : Effected s T t := by
  rw [stepWord_headerWrite ask.headerWrite] at hs
  cases hl : headerLocked s.mode
  · rw [unlessLocked_unlocked hl] at hs
    exact effected_of_finishWrite hs (.headerWrite ask hl)
  · rw [unlessLocked_locked hl] at hs
    exact effected_of_finishWrite hs (.misusedHeaderWrite ask hl)

theorem effected_pop {T : TxnWord} {s t : State} (ask : Asks T none none false)
    (hr : readsDout T = true) (hs : stepWord T s = .next t) : Effected s T t := by
  rw [stepWord_readsDout hr] at hs
  by_cases hlt : s.rptr < s.hcnt
  · rw [execPop_of_lt hlt] at hs
    exact ⟨_, _, .pop ask hlt, finishRead_eq_next.mp hs⟩
  · rw [execPop_of_not_lt hlt] at hs
    exact ⟨_, _, .underrun ask hlt, finishRead_eq_next.mp hs⟩

/-- Every transaction has one of the effects. -/
theorem effected {T : TxnWord} {s t : State} (hs : stepWord T s = .next t) : Effected s T t := by
  cases txnKind T
  case command op hc hp hw _ => exact effected_command ⟨hc, hp, hw⟩ hs
  case push b hc hp hw _ => exact effected_push ⟨hc, hp, hw⟩ hs
  case headerWrite hc hp hw _ => exact effected_headerWrite ⟨hc, hp, hw⟩ hs
  case doutRead hc hp hw hr => exact effected_pop ⟨hc, hp, hw⟩ hr hs
  case plain hc hp hw hr =>
    obtain ⟨v, e⟩ := stepWord_plain hc hp hw hr s
    exact ⟨s, v, .plain ⟨hc, hp, hw⟩, finishRead_eq_next.mp (e ▸ hs)⟩

/-! ## The frames -/

/-- Among the four header registers a host write changes the one it names (R156 to R159). -/
theorem writtenHeader_frame (p : Params) (T : TxnWord) (h : Header) (hw : writesHeader T = true) :
    (writesHeaderReg 0 T = false → (writtenHeader p T h).typ = h.typ) ∧
    (writesHeaderReg 1 T = false → (writtenHeader p T h).seq = h.seq) ∧
    (writesHeaderReg 2 T = false → (writtenHeader p T h).len = h.len) ∧
    (writesHeaderReg 3 T = false → (writtenHeader p T h).csum = h.csum) := by
  obtain ⟨hwe, hi⟩ := writesHeader_iff.mp hw
  unfold writesHeaderReg writtenHeader
  rw [hwe]
  interval_cases (indexField T).toNat <;> simp

theorem completesHeader_of_no_push {s : State} {T : TxnWord} (hp : pushedByte T = none) :
    completesHeader s T = false := by
  simp [completesHeader, hp]

theorem completesHeader_of_ne_rxh {s : State} (hm : s.mode ≠ .rxh) (T : TxnWord) :
    completesHeader s T = false := by
  simp [completesHeader, hm]

theorem sealsHeader_of_no_command {s : State} {T : TxnWord} (hc : commandOf T = none) :
    sealsHeader s T = false := by
  simp [sealsHeader, hc]

theorem sealsHeader_of_command {s : State} {T : TxnWord} {op : Byte} (hc : commandOf T = some op)
    (hop : op = 7#8 → s.mode ≠ .txp ∨ payloadMissing s = true) : sealsHeader s T = false := by
  by_cases h7 : op = 7#8
  · rcases hop h7 with hm | hmiss
    · simp [sealsHeader, hm]
    · simp [sealsHeader, hmiss]
  · simp [sealsHeader, hc, h7]

theorem ne_rxh_of_payload {s : State} (hm : s.mode = .rxp ∨ s.mode = .txp) : s.mode ≠ .rxh := by
  rcases hm with hm | hm <;> simp [hm]

theorem ne_idle_of_payload {s : State} (hm : s.mode = .rxp ∨ s.mode = .txp) : s.mode ≠ .idle := by
  rcases hm with hm | hm <;> simp [hm]

/-- What `Obligations.HeaderRegistersChangeOnlyBy` says of one transaction. -/
def HeaderFrame (s : State) (T : TxnWord) (t : State) : Prop :=
  ((writesHeaderReg 0 T = false ∨ headerLocked s.mode = true) → completesHeader s T = false →
    t.hdrType = s.hdrType) ∧
  ((writesHeaderReg 1 T = false ∨ headerLocked s.mode = true) → completesHeader s T = false →
    t.hdrSeq = s.hdrSeq) ∧
  ((writesHeaderReg 2 T = false ∨ headerLocked s.mode = true) → completesHeader s T = false →
    t.hdrLen = s.hdrLen) ∧
  ((writesHeaderReg 3 T = false ∨ headerLocked s.mode = true) → completesHeader s T = false →
    sealsHeader s T = false → t.hdrCsum = s.hdrCsum) ∧
  (completesHeader s T = true → t.header = headerFields s.params t.hbuf) ∧
  (sealsHeader s T = true → t.hdrCsum = s.acc ^^^ 0xFFFFFFFF#32)

theorem headerFrame_of_kept {s t : State} {T : TxnWord} (hkept : t.header = s.header)
    (hcomp : completesHeader s T = false) (hseal : sealsHeader s T = false) : HeaderFrame s T t := by
  obtain ⟨htyp, hseq, hlen, hcsum⟩ := Header.mk.inj hkept
  simp [HeaderFrame, hcomp, hseal, htyp, hseq, hlen, hcsum]

theorem headerFrame_of_headerWrite {s t : State} {T : TxnWord} (ask : Asks T none none true)
    (hl : headerLocked s.mode = false) (ht : t.header = writtenHeader s.params T s.header) :
    HeaderFrame s T t := by
  obtain ⟨htyp, hseq, hlen, hcsum⟩ := writtenHeader_frame s.params T s.header ask.headerWrite
  rw [← ht] at htyp hseq hlen hcsum
  have hcomp := completesHeader_of_no_push (s := s) ask.pushed
  have hseal := sealsHeader_of_no_command (s := s) ask.command
  simpa [HeaderFrame, hl, hcomp, hseal] using ⟨htyp, hseq, hlen, hcsum⟩

/-- Every effect but `CLR`'s: three of them touch the header registers. -/
theorem headerFrame_of_effect {s u : State} {T : TxnWord} (hclr : isClr T = false)
    (he : TxnEffect s T u) : HeaderFrame s T u := by
  cases he
  case clr ask => simp [isClr, ask.command] at hclr
  case headerWrite ask hl => exact headerFrame_of_headerWrite ask hl rfl
  case txEndSeal ask hm hp =>
    have hcomp := completesHeader_of_no_push (s := s) ask.pushed
    have hseal : sealsHeader s T = true := by simp [sealsHeader, ask.command, hm, hp]
    simp [HeaderFrame, hcomp, hseal, sealHeader, crcOut, crcXorOut]
  case pushHeaderLast b ask hm hn =>
    have hcomp : completesHeader s T = true := by simp [completesHeader, ask.pushed, hm, hn]
    have hseal := sealsHeader_of_no_command (s := s) ask.command
    simp [HeaderFrame, hcomp, hseal, State.header]
  case plain ask | underrun ask _ | pop ask _ | misusedHeaderWrite ask _ =>
    exact headerFrame_of_kept rfl (completesHeader_of_no_push ask.pushed)
      (sealsHeader_of_no_command ask.command)
  case misusedPush b ask hm | pushRaw b ask hm =>
    exact headerFrame_of_kept rfl (completesHeader_of_ne_rxh (by simp [hm]) T)
      (sealsHeader_of_no_command ask.command)
  case pushCovered b ask hm _ | pushExtra b ask hm _ =>
    exact headerFrame_of_kept rfl (completesHeader_of_ne_rxh (ne_rxh_of_payload hm) T)
      (sealsHeader_of_no_command ask.command)
  case pushHeader b ask hm hn =>
    exact headerFrame_of_kept rfl (by simp [completesHeader, hn])
      (sealsHeader_of_no_command ask.command)
  case misusedCommand m op ask hop hseal =>
    exact headerFrame_of_kept (by simp [State.header]) (completesHeader_of_no_push ask.pushed)
      (sealsHeader_of_command ask.command fun h7 => .inl (hseal h7))
  case txEndMissing ask _ hp =>
    exact headerFrame_of_kept rfl (completesHeader_of_no_push ask.pushed)
      (sealsHeader_of_command ask.command fun _ => .inr hp)
  case encode op ask hop _ _ =>
    exact headerFrame_of_kept rfl (completesHeader_of_no_push ask.pushed)
      (sealsHeader_of_command ask.command (by rcases hop with rfl | rfl <;> simp))
  case nop ask | crcStart ask | rxBegin ask | rxEnd ask _ | txBegin ask =>
    exact headerFrame_of_kept rfl (completesHeader_of_no_push ask.pushed)
      (sealsHeader_of_command ask.command (by simp))

/-- Settles O15, from the effects of a transaction; `rdata` is no header register. -/
theorem headerRegistersChangeOnlyBy : Obligations.HeaderRegistersChangeOnlyBy := by
  unfold Obligations.HeaderRegistersChangeOnlyBy
  intro T s t h hclr
  obtain ⟨u, v, he, rfl⟩ := effected h
  have hframe : HeaderFrame s T u := headerFrame_of_effect hclr he
  exact hframe

/-- Settles O21, by the effects: the flow-opening commands and `CLR` set `ACC`, four pushes update it. -/
theorem accumulatorChangesOnlyBy : Obligations.AccumulatorChangesOnlyBy := by
  unfold Obligations.AccumulatorChangesOnlyBy
  refine ⟨fun T s t h => ?_, fun p => rfl⟩
  obtain ⟨u, v, he, rfl⟩ := effected h
  clear h
  cases he
  case plain ask | underrun ask _ | pop ask _ | misusedHeaderWrite ask _ | headerWrite ask _ =>
    simp [ask.command, ask.pushed]
  case nop ask | rxEnd ask _ | txEndMissing ask _ _ | clr ask =>
    simp [ask.command, ask.pushed]
  case txEndSeal ask _ _ => simp [ask.command, ask.pushed, sealHeader]
  case crcStart ask | rxBegin ask => simp [ask.command, crcInit]
  case txBegin ask => simp [ask.command, crcInit, encodeZeroed, State.header]
  case encode op ask hop _ _ => rcases hop with rfl | rfl <;> simp [ask.command, ask.pushed]
  case misusedCommand m op ask hop _ =>
    simp only [List.mem_cons, List.not_mem_nil, or_false, not_or] at hop
    simp [ask.command, ask.pushed, hop]
  case misusedPush b ask hm => simp [ask.command, ask.pushed, hm]
  case pushRaw b ask hm => simp [ask.command, ask.pushed, hm]
  case pushHeader b ask hm _ | pushHeaderLast b ask hm _ =>
    simp [ask.command, ask.pushed, hm, crcUpdate_coveredHeaderByte]
  case pushCovered b ask hm hp =>
    have hcov := (payloadMissing_iff s).mp hp
    rcases hm with hm | hm <;> simp [ask.command, ask.pushed, hm, hcov]
  case pushExtra b ask hm hp =>
    have hcov : ¬(s.hdrType = 2#32 ∧ s.pcnt < s.hdrLen) := by simp [← payloadMissing_iff, hp]
    rcases hm with hm | hm <;> simp [ask.command, ask.pushed, hm, hcov]

/-- Settles O50, by the effects: `RXHDR` is set by the last header byte and cleared by five. -/
theorem rxhdrSetAndCleared : Obligations.RxhdrSetAndCleared := by
  unfold Obligations.RxhdrSetAndCleared
  intro T s t h
  obtain ⟨u, v, he, rfl⟩ := effected h
  clear h
  cases he
  case plain ask | underrun ask _ | pop ask _ =>
    simp [completesHeader, ask.command, ask.pushed, ask.headerWrite]
  case headerWrite ask hl | misusedHeaderWrite ask hl =>
    simp [completesHeader, ask.command, ask.pushed, ask.headerWrite, ← headerLocked_eq_false_iff, hl]
  case nop ask | crcStart ask | rxBegin ask | rxEnd ask _ | txBegin ask | txEndMissing ask _ _ |
      clr ask =>
    simp [completesHeader, ask.command, ask.pushed, ask.headerWrite]
  case txEndSeal ask _ _ =>
    simp [completesHeader, ask.command, ask.pushed, ask.headerWrite, sealHeader]
  case encode op ask hop _ _ =>
    rcases hop with rfl | rfl <;> simp [completesHeader, ask.command, ask.pushed, ask.headerWrite]
  case misusedCommand m op ask hop _ =>
    simp only [List.mem_cons, List.not_mem_nil, or_false, not_or] at hop
    simp [completesHeader, ask.command, ask.pushed, ask.headerWrite, hop]
  case misusedPush b ask hm | pushRaw b ask hm =>
    simp [completesHeader, ask.command, ask.headerWrite, hm]
  case pushHeader b ask hm hn | pushHeaderLast b ask hm hn =>
    simp [completesHeader, ask.command, ask.pushed, ask.headerWrite, hm, hn]
  case pushCovered b ask hm _ | pushExtra b ask hm _ =>
    simp [completesHeader_of_ne_rxh (ne_rxh_of_payload hm), ask.command, ask.headerWrite]

/-- In RXH the next header byte has its place in `HBUF` (R51 (c), R20). -/
theorem State.Inv.hcnt_lt_length {s : State} (hinv : s.Inv) (hm : s.mode = .rxh) :
    s.hcnt.toNat < s.hbuf.length := by
  rw [hinv.length_hbuf]
  obtain ⟨-, hclean, -⟩ := hinv
  obtain ⟨hlt, -, -⟩ := hclean hm
  exact hlt

/-- What `Obligations.HbufChangesOnlyBy` says of one transaction. -/
def HbufFrame (s : State) (T : TxnWord) (t : State) : Prop :=
  ((encodes T = false ∨ headerLocked s.mode = true) → sealsHeader s T = false →
    (pushedByte T = none ∨ s.mode ≠ .rxh) → t.hbuf = s.hbuf) ∧
  (∀ b : Byte, pushedByte T = some b → s.mode = .rxh → s.Inv →
    ∀ i : Nat, t.hbuf[i]? = if i = s.hcnt.toNat then some b else s.hbuf[i]?)

theorem hbufFrame_of_no_push {s t : State} {T : TxnWord} (hp : pushedByte T = none)
    (hkept : (encodes T = false ∨ headerLocked s.mode = true) → sealsHeader s T = false →
      t.hbuf = s.hbuf) : HbufFrame s T t :=
  ⟨fun hl hs _ => hkept hl hs, fun b hb => by simp [hp] at hb⟩

theorem hbufFrame_of_ne_rxh {s t : State} {T : TxnWord} (hm : s.mode ≠ .rxh)
    (hkept : t.hbuf = s.hbuf) : HbufFrame s T t :=
  ⟨fun _ _ _ => hkept, fun _ _ hrxh => absurd hrxh hm⟩

theorem hbufFrame_of_set {s t : State} {T : TxnWord} {b : Byte} (hp : pushedByte T = some b)
    (hm : s.mode = .rxh) (hset : t.hbuf = s.hbuf.set s.hcnt.toNat b) : HbufFrame s T t := by
  refine ⟨fun _ _ hno => by simp [hp, hm] at hno, fun c hc _ hinv i => ?_⟩
  obtain rfl : b = c := Option.some.inj (hp.symm.trans hc)
  simp [hset, List.getElem?_set, hinv.hcnt_lt_length hm, eq_comm]

theorem hbufFrame_of_effect {s u : State} {T : TxnWord} (hclr : isClr T = false)
    (he : TxnEffect s T u) : HbufFrame s T u := by
  cases he
  case clr ask => simp [isClr, ask.command] at hclr
  case encode op ask hop hl _ =>
    have henc : encodes T = true := by rcases hop with rfl | rfl <;> simp [encodes, ask.command]
    exact hbufFrame_of_no_push ask.pushed fun hno => by simp [henc, hl] at hno
  case txEndSeal ask hm hp =>
    exact hbufFrame_of_no_push ask.pushed fun _ hno => by simp [sealsHeader, ask.command, hm, hp] at hno
  case pushHeader b ask hm _ | pushHeaderLast b ask hm _ => exact hbufFrame_of_set ask.pushed hm rfl
  case misusedPush b ask hm | pushRaw b ask hm => exact hbufFrame_of_ne_rxh (by simp [hm]) rfl
  case pushCovered b ask hm _ | pushExtra b ask hm _ =>
    exact hbufFrame_of_ne_rxh (ne_rxh_of_payload hm) rfl
  case misusedCommand m op ask _ _ =>
    exact hbufFrame_of_no_push ask.pushed fun _ _ => raiseMisuse_hbuf m s
  case plain ask | nop ask | underrun ask _ | pop ask _ | misusedHeaderWrite ask _ |
      headerWrite ask _ | crcStart ask | rxBegin ask | rxEnd ask _ | txBegin ask |
      txEndMissing ask _ _ =>
    exact hbufFrame_of_no_push ask.pushed fun _ _ => rfl

/-- Settles O28, from the effects of a transaction. -/
theorem hbufChangesOnlyBy : Obligations.HbufChangesOnlyBy := by
  unfold Obligations.HbufChangesOnlyBy
  intro T s t h hclr
  obtain ⟨u, v, he, rfl⟩ := effected h
  have hframe : HbufFrame s T u := hbufFrame_of_effect hclr he
  exact hframe

/-! ## The flow flags -/

/-- While a flow is open no verdict stands (R51 (f), (g)). -/
theorem State.Inv.no_verdict_of_ne_idle {s : State} (hinv : s.Inv) (hm : s.mode ≠ .idle) :
    s.done = false ∧ s.accept = false ∧ s.crcErr = false ∧ s.short = false ∧ s.lenerr = false := by
  obtain ⟨-, -, -, -, ⟨-, hverdict⟩, hidle, -, -⟩ := hinv
  have hdone : s.done = false := by
    cases h : s.done
    · rfl
    · exact absurd (hidle h) hm
  simpa [hdone, and_assoc] using hverdict

/-- What `Obligations.FlowFlagsClearedOnlyTogether` says of one transaction. -/
def FlowFlagFrame (s : State) (T : TxnWord) (t : State) : Prop :=
  ((opensFlow T || isClr T) = true →
    t.done = false ∧ t.accept = false ∧ t.crcErr = false ∧ t.short = false ∧ t.lenerr = false ∧
    t.extra = false) ∧
  ((opensFlow T || isClr T) = false →
    (s.done = true → t.done = true) ∧ (s.accept = true → t.accept = true) ∧
    (s.crcErr = true → t.crcErr = true) ∧ (s.short = true → t.short = true) ∧
    (s.lenerr = true → t.lenerr = true) ∧ (s.extra = true → t.extra = true))

theorem flowFlagFrame_of_effect {s u : State} {T : TxnWord} (hinv : s.Inv) (he : TxnEffect s T u) :
    FlowFlagFrame s T u := by
  cases he
  case crcStart ask | rxBegin ask | txBegin ask | clr ask =>
    simp [FlowFlagFrame, opensFlow, isClr, ask.command]
  case rxEnd ask hm =>
    obtain ⟨-, haccept, hcrc, hshort, hlenerr⟩ :=
      hinv.no_verdict_of_ne_idle (by rcases hm with hm | hm <;> simp [hm])
    simp [FlowFlagFrame, opensFlow, isClr, ask.command, haccept, hcrc, hshort, hlenerr]
  case txEndMissing ask hm _ => simp [FlowFlagFrame, opensFlow, isClr, ask.command]
  case txEndSeal ask hm _ =>
    obtain ⟨-, -, -, -, hlenerr⟩ := hinv.no_verdict_of_ne_idle (by simp [hm])
    simp [FlowFlagFrame, opensFlow, isClr, ask.command, hlenerr, sealHeader]
  case encode op ask hop _ _ =>
    rcases hop with rfl | rfl <;> simp [FlowFlagFrame, opensFlow, isClr, ask.command]
  case misusedCommand m op ask hop _ =>
    simp only [List.mem_cons, List.not_mem_nil, or_false, not_or] at hop
    simp [FlowFlagFrame, opensFlow, isClr, ask.command, hop]
  case plain ask | nop ask | misusedPush _ ask _ | misusedHeaderWrite ask _ | underrun ask _ |
      pop ask _ | headerWrite ask _ | pushRaw _ ask _ | pushHeader _ ask _ _ |
      pushHeaderLast _ ask _ _ | pushCovered _ ask _ _ | pushExtra _ ask _ _ =>
    simp [FlowFlagFrame, opensFlow, isClr, ask.command]

/-- Settles O49, from the effects of a transaction: the verdicts `RX_END` and `TX_END` write over are clear in
an open flow. -/
theorem flowFlagsClearedOnlyTogether : Obligations.FlowFlagsClearedOnlyTogether := by
  unfold Obligations.FlowFlagsClearedOnlyTogether
  intro T s t hinv h
  obtain ⟨u, v, he, rfl⟩ := effected h
  have hframe : FlowFlagFrame s T u := flowFlagFrame_of_effect hinv he
  exact hframe

end Sys2Proof.Machine
end

section
/-! PROOFS. Which transactions may be repeated (spec/20_memory.md R67): what each of them does the second time. -/

namespace Sys2Proof.Machine

/-- A transaction behind the header lock may be repeated when its effect may: the lock does not change. -/
theorem unlessLocked_again {A : State → State} {s t : State} (h : unlessLocked (A s) s = .next t)
    (hmode : (A s).mode = s.mode)
    (hA : { A { A s with rdata := 0#32 } with rdata := 0#32 } = { A s with rdata := 0#32 }) :
    unlessLocked (A t) t = .next t := by
  cases hl : headerLocked s.mode
  case false =>
    rw [unlessLocked_unlocked hl] at h
    obtain rfl := finishWrite_eq_next.mp h
    have hl' : headerLocked (A s).mode = false := hmode ▸ hl
    exact (unlessLocked_unlocked hl' _).trans (congrArg Host.Outcome.next hA)
  case true =>
    rw [unlessLocked_locked hl] at h
    obtain rfl := finishWrite_eq_next.mp h
    exact unlessLocked_locked hl _

theorem writtenHeader_again (p : Params) (T : TxnWord) (h : Header) :
    writtenHeader p T (writtenHeader p T h) = writtenHeader p T h := by
  unfold writtenHeader
  rcases (indexField T).toNat with _ | _ | _ | n <;> rfl

theorem headerWrite_again {T : TxnWord} {s t : State} (hw : writesHeader T = true)
    (h : stepWord T s = .next t) : stepWord T t = .next t := by
  rw [stepWord_headerWrite hw] at h ⊢
  refine unlessLocked_again (A := fun s => hostWrote (setHeader (writtenHeader s.params T s.header) s))
    h rfl ?_
  have hH := writtenHeader_again s.params T s.header
  exact congrArg (fun H => { hostWrote (setHeader H s) with rdata := 0#32 }) hH

/-- `NOP`, `CRC_START`, `RX_BEGIN`, `TX_BEGIN`, `ENC`, `ENC0`, `CLR`. -/
theorem command_again {T : TxnWord} {op : Byte} {s t : State} (hc : commandOf T = some op)
    (hop : op ∈ [0#8, 1#8, 2#8, 3#8, 4#8, 6#8, 8#8]) (h : stepWord T s = .next t) :
    stepWord T t = .next t := by
  rw [stepWord_command hc] at h ⊢
  simp only [List.mem_cons, List.not_mem_nil, or_false] at hop
  rcases hop with rfl | rfl | rfl | rfl | rfl | rfl | rfl
  case inr.inr.inl =>
    exact unlessLocked_again (A := fun s => loadHbuf (encodeHeader s.params s.header) s) h rfl rfl
  case inr.inr.inr.inl =>
    exact unlessLocked_again (A := fun s => loadHbuf (encodeZeroed s.params s.header) s) h rfl rfl
  all_goals
    obtain rfl := finishWrite_eq_next.mp h
    rfl

/-- A misuse after a write only sets its flag: `rdata` is 0 already. -/
theorem finishWrite_misuse_again {t u : State} (ht : t = { u with rdata := 0#32 }) :
    finishWrite (raiseMisuse .seq t) = .next { t with errSeq := true } := by
  subst ht
  rfl

/-- After an `RX_END` no RX flow is open. -/
theorem rxEnd_again {s t : State} (h : execRxEnd s = .next t) :
    execRxEnd t = .next { t with errSeq := true } := by
  rw [execRxEnd_eq] at h
  have ht := finishWrite_eq_next.mp h
  have hclosed : rxOpen t.mode = false := by
    have hidle : rxOpen .idle = false := rfl
    cases hm : rxOpen s.mode <;> simp [ht, hm, hidle]
  rw [execRxEnd_eq, hclosed]
  exact finishWrite_misuse_again ht

/-- After a `TX_END` no TX flow is open. -/
theorem txEnd_again {s t : State} (h : execTxEnd s = .next t) :
    execTxEnd t = .next { t with errSeq := true } := by
  rw [execTxEnd_eq] at h
  have ht := finishWrite_eq_next.mp h
  have hclosed : t.mode ≠ .txp := by
    by_cases hm : s.mode = .txp <;> simp [ht, hm]
  rw [execTxEnd_eq, if_neg hclosed]
  exact finishWrite_misuse_again ht

/-- Settles O52: the first time changes nothing the second one reads, except that `RX_END` and `TX_END` close
their flow. -/
theorem idempotentTransactions : Obligations.IdempotentTransactions := by
  unfold Obligations.IdempotentTransactions
  refine fun T s t h => ⟨?repeatable, ?closing⟩
  case repeatable =>
    rintro (hw | ⟨op, hop, hc⟩)
    · exact headerWrite_again hw h
    · exact command_again hc hop h
  case closing =>
    rintro (hc | hc) <;> rw [stepWord_command hc] at h ⊢
    · exact rxEnd_again h
    · exact txEnd_again h

end Sys2Proof.Machine
end

section
/-! PROOFS. The invariant of the reachable states (spec/10_state.md R51): the reset state has it and every effect
of a transaction keeps it, so every step does. -/

namespace Sys2Proof.Machine

/-! ## Steps and effects -/

/-- What a reset and every effect keep, and the port does not touch, every step keeps. -/
theorem step_keeps {P : State → Prop}
    (port : ∀ s v q, P s → P { s with rdata := v, inbox := q })
    (reset : ∀ s, P s → P (resetBlock s))
    (effect : ∀ s T u, P s → TxnEffect s T u → P u)
    {s t : State} (hs : P s) (h : step s = .next t) : P t := by
  cases hin : s.inbox
  case nil =>
    rw [step_nil hin] at h
    exact Host.Outcome.next.inj h ▸ hs
  case cons x rest =>
    obtain ⟨rst, sel, T⟩ := x
    rw [step_cons hin] at h
    have hrest : P { s with inbox := rest } := port s s.rdata rest hs
    cases rst
    case true =>
      rw [stepInput_rst] at h
      exact Host.Outcome.next.inj h ▸ reset _ hrest
    case false =>
      cases sel
      case false =>
        rw [stepInput_idle] at h
        exact Host.Outcome.next.inj h ▸ hrest
      case true =>
        rw [stepInput_txn] at h
        obtain ⟨u, v, he, rfl⟩ := effected h
        exact port u v u.inbox (effect _ T u hrest he)

/-! ## States outside the header flows -/

/-- In IDLE and RAW the clauses of the header flows say nothing. -/
theorem inv_of_idle_or_raw {s : State} (hm : s.mode = .idle ∨ s.mode = .raw)
    (hcount : s.countersInRange) (hverdict : s.verdictExclusive) (hdone : s.doneIdle)
    (htyp : s.typeInWidth) (hfull : s.hbufFull) : s.Inv :=
  ⟨hcount, fun h => by simp [h] at hm, fun h => by simp [h] at hm, fun h => by simp [h] at hm,
    hverdict, hdone, htyp, hfull⟩

theorem resetWith_inv (p : Params) : (State.resetWith p).Inv :=
  inv_of_idle_or_raw (.inl rfl) ⟨by simp, by simp⟩ ⟨by simp, by simp⟩ (fun _ => rfl)
    (Nat.two_pow_pos _) List.length_replicate

theorem resetBlock_inv (s : State) : (resetBlock s).Inv := resetWith_inv s.params

/-! ## The effects -/

theorem raiseMisuse_inv {s : State} (hinv : s.Inv) (m : Misuse) : (raiseMisuse m s).Inv := by
  cases m <;> exact hinv

/-- What a `HDR_TYPE` write keeps fits the type field (R100). -/
theorem truncType_lt (p : Params) (w : Word) : (truncType p w).toNat < 2 ^ p.typeWidth := by
  cases hp : p.typeBytes
  case one =>
    have hbyte : (zextByte (lowByte w)).toNat = (lowByte w).toNat :=
      BitVec.toNat_setWidth_of_le (by decide)
    rw [typeWidth_of_one hp, truncType, hp, hbyte]
    exact (lowByte w).isLt
  case four =>
    have hwidth : p.typeWidth = 32 := by simp [Params.typeWidth, Params.typeSize, hp]
    rw [hwidth]
    exact (truncType p w).isLt

theorem typ_writtenHeader_lt {p : Params} {h : Header} (ht : h.typ.toNat < 2 ^ p.typeWidth)
    (T : TxnWord) : (writtenHeader p T h).typ.toNat < 2 ^ p.typeWidth := by
  unfold writtenHeader
  split
  · exact truncType_lt p _
  all_goals exact ht

/-- The header byte just stored is counted: five bits are enough (R29). -/
theorem State.Inv.toNat_hcnt_succ {s : State} (hinv : s.Inv) (hm : s.mode = .rxh) :
    (s.hcnt + 1#5).toNat = s.hcnt.toNat + 1 := by
  obtain ⟨-, hclean, -⟩ := hinv
  obtain ⟨hlt, -, -⟩ := hclean hm
  rcases hdrSize_eq s.params with hsize | hsize <;> rw [hsize] at hlt <;> bv_omega

theorem hdrSize_pos (p : Params) : 0 < p.hdrSize := Nat.succ_pos _

/-- Every effect of a transaction keeps the invariant. -/
theorem inv_of_effect {s u : State} {T : TxnWord} (hinv : s.Inv) (he : TxnEffect s T u) : u.Inv := by
  obtain ⟨⟨hrptr, hhcnt⟩, hrxh, hrxp, htxp, ⟨hone, hsome⟩, hdone, htyp, hfull⟩ := id hinv
  cases he
  case plain | nop => exact hinv
  case misusedCommand m _ _ _ _ => exact raiseMisuse_inv hinv m
  case misusedPush | misusedHeaderWrite | underrun => exact raiseMisuse_inv hinv _
  case pop _ hlt =>
    exact ⟨⟨by bv_omega, hhcnt⟩, hrxh, hrxp, htxp, ⟨hone, hsome⟩, hdone, htyp, hfull⟩
  case headerWrite _ hl =>
    exact inv_of_idle_or_raw ((headerLocked_eq_false_iff _).mp hl) ⟨hrptr, hhcnt⟩ ⟨hone, hsome⟩ hdone
      (typ_writtenHeader_lt htyp T) hfull
  case encode _ _ _ hl h =>
    exact inv_of_idle_or_raw ((headerLocked_eq_false_iff _).mp hl)
      ⟨by simp, (toNat_ofNat_hdrSize s.params).le⟩ ⟨hone, hsome⟩ hdone htyp (length_encodeHeader _ h)
  case crcStart =>
    exact inv_of_idle_or_raw (.inr rfl) ⟨hrptr, hhcnt⟩ ⟨by simp, by simp⟩ nofun htyp hfull
  case rxBegin =>
    exact ⟨⟨by simp, by simp⟩, fun _ => ⟨hdrSize_pos s.params, rfl, rfl⟩, nofun, nofun,
      ⟨by simp, by simp⟩, nofun, htyp, hfull⟩
  case txBegin =>
    exact ⟨⟨by simp, by simp⟩, nofun, nofun, fun _ => ⟨rfl, rfl⟩, ⟨by simp, by simp⟩, nofun, htyp, hfull⟩
  case rxEnd =>
    exact inv_of_idle_or_raw (.inl rfl) ⟨hrptr, hhcnt⟩
      ⟨(setVerdict_exactly_one _ s).le, fun _ => rfl⟩ (fun _ => rfl) htyp hfull
  case txEndMissing _ hm _ =>
    obtain ⟨-, haccept, hcrc, hshort, -⟩ := hinv.no_verdict_of_ne_idle (by simp [hm])
    exact inv_of_idle_or_raw (.inl rfl) ⟨hrptr, hhcnt⟩
      ⟨by simp [haccept, hcrc, hshort], fun _ => rfl⟩ (fun _ => rfl) htyp hfull
  case txEndSeal _ hm _ =>
    obtain ⟨-, haccept, hcrc, hshort, -⟩ := hinv.no_verdict_of_ne_idle (by simp [hm])
    exact inv_of_idle_or_raw (.inl rfl)
      ⟨by simp [sealHeader], (toNat_ofNat_hdrSize s.params).le⟩
      ⟨by simp [haccept, hcrc, hshort, sealHeader], fun _ => rfl⟩ (fun _ => rfl) htyp
      (length_encodeHeader _ _)
  case clr => exact resetBlock_inv s
  case pushRaw _ _ hm =>
    exact inv_of_idle_or_raw (.inr hm) ⟨hrptr, hhcnt⟩ ⟨hone, hsome⟩ hdone htyp hfull
  case pushHeader b _ hm hn =>
    have hcnt := hinv.toNat_hcnt_succ hm
    obtain ⟨hlt, hpcnt, hrxhdr⟩ := hrxh hm
    have hlen : (s.hbuf.set s.hcnt.toNat b).length = s.params.hdrSize := by simp [hfull]
    have hrptr' : s.rptr.toNat ≤ (s.hcnt + 1#5).toNat := by omega
    have hlt' : (s.hcnt + 1#5).toNat < s.params.hdrSize := by omega
    exact ⟨⟨hrptr', hlt'.le⟩, fun _ => ⟨hlt', hpcnt, hrxhdr⟩, fun h => absurd (hm.symm.trans h) nofun,
      fun h => absurd (hm.symm.trans h) nofun, ⟨hone, hsome⟩, hdone, htyp, hlen⟩
  case pushHeaderLast b _ hm hn =>
    have hcnt := hinv.toNat_hcnt_succ hm
    obtain ⟨hnd, -⟩ := hinv.no_verdict_of_ne_idle (by simp [hm])
    have hlen : (s.hbuf.set s.hcnt.toNat b).length = s.params.hdrSize := by simp [hfull]
    have hrptr' : s.rptr.toNat ≤ (s.hcnt + 1#5).toNat := by omega
    exact ⟨⟨hrptr', (hcnt.trans hn).le⟩, nofun,
      fun _ => ⟨hcnt.trans hn, rfl, decodeHeader_of_length_eq hlen⟩, nofun, ⟨hone, hsome⟩,
      fun h => by simp [hnd] at h, desTypeAt_lt _ _, hlen⟩
  case pushCovered _ _ hm _ | pushExtra _ _ hm _ =>
    exact ⟨⟨hrptr, hhcnt⟩, fun h => absurd h (ne_rxh_of_payload hm), hrxp, htxp, ⟨hone, hsome⟩, hdone,
      htyp, hfull⟩

/-- Settles O53, from the effects of a transaction. -/
theorem stepKeepsTheInvariant : Obligations.StepKeepsTheInvariant := by
  unfold Obligations.StepKeepsTheInvariant
  exact fun s t => step_keeps (P := State.Inv) (fun _ _ _ h => h) (fun s _ => resetBlock_inv s)
    fun _ _ _ => inv_of_effect

end Sys2Proof.Machine
end

section
/-! PROOFS. What `ACC`, `PCNT` and `EXTRA` are in an open flow, in the bytes the flow has taken: the rules of a
push (spec/40_crc32.md R136, spec/42_rx_validate.md R182, R183, spec/43_tx_seal.md R202) and the accumulator
invariant that follows from them. -/

namespace Sys2Proof.Machine

/-! ## Header bytes -/

@[simp] theorem zeroCsum_nil (p : Params) : zeroCsum p [] = [] := by
  simp [zeroCsum]

/-- The next header byte, as the engine sees it (R182). -/
theorem zeroCsum_concat (p : Params) (L : List Byte) (b : Byte) :
    zeroCsum p (L ++ [b]) = zeroCsum p L ++ [coveredHeaderByte p L.length b] := by
  unfold zeroCsum coveredHeaderByte
  by_cases h : p.csumOff ≤ L.length
  · have hrep : (L ++ [b]).length - p.csumOff = L.length - p.csumOff + 1 := by simp; omega
    rw [if_pos h, hrep, List.take_append_of_le_length h, List.replicate_succ', List.append_assoc]
  · have hrep : (L ++ [b]).length - p.csumOff = 0 := by simp; omega
    have hrep' : L.length - p.csumOff = 0 := by omega
    rw [if_neg h, hrep, hrep', List.take_of_length_le (by simp; omega),
      List.take_of_length_le (by omega)]
    simp

/-- A whole header with its checksum field as zeros is the encoding of its fields, zeroed (R152, R182). -/
theorem zeroCsum_eq_encodeZeroed (p : Params) {H : List Byte} (h : H.length = p.hdrSize) :
    zeroCsum p H = encodeZeroed p (headerFields p H) := by
  have hoff := csumOff_add_four p
  have hfour : H.length - p.csumOff = 4 := by omega
  rw [encodeZeroed, encodeHeader_headerFields_csum p h.ge, ser4_zero, zeroCsum, hfour]
  rfl

/-- The byte stored at the end of what is stored (R182). -/
theorem take_set_succ (L : List Byte) {n : Nat} (h : n < L.length) (b : Byte) :
    (L.set n b).take (n + 1) = L.take n ++ [b] := by
  rw [List.take_succ_eq_append_getElem (by simpa using h)]
  simp [List.take_set_of_le]

/-- What `ACC` becomes when header byte `n` is stored and absorbed (R182). -/
theorem crcUpdate_headerByte {p : Params} {L : List Byte} {n : Nat} {acc : Word} (hn : n < L.length)
    (hacc : acc = crcAbsorb crcInit (zeroCsum p (L.take n))) (b : Byte) :
    crcUpdate acc (coveredHeaderByte p n b) =
      crcAbsorb crcInit (zeroCsum p ((L.set n b).take (n + 1))) := by
  rw [take_set_succ L hn, zeroCsum_concat, crcAbsorb_concat, ← hacc, List.length_take,
    min_eq_left hn.le]

/-! ## Counted bytes -/

/-- `PCNT` is the number of the bytes, saturated (R31). -/
def Counts (n : Word) (P : List Byte) : Prop := n.toNat = min P.length 0xFFFFFFFF

theorem counts_nil : Counts 0#32 [] := rfl

theorem counts_concat {n : Word} {P : List Byte} (h : Counts n P) (b : Byte) :
    Counts (satInc n) (P ++ [b]) := by
  rw [Counts] at h ⊢
  rw [toNat_satInc, h, List.length_append, List.length_singleton]
  omega

/-- A count below some register's value is exact. -/
theorem length_lt_of_counts_lt {n m : Word} {P : List Byte} (h : Counts n P) (hlt : n < m) :
    P.length < m.toNat := by
  rw [Counts] at h
  have := m.isLt
  rw [BitVec.lt_def] at hlt
  omega

theorem le_length_of_counts {n m : Word} {P : List Byte} (h : Counts n P) (hle : ¬n < m) :
    m.toNat ≤ P.length := by
  rw [Counts] at h
  rw [BitVec.lt_def] at hle
  omega

/-! ## The RAW flow -/

/-- In RAW, `s` has taken the bytes `P` (R135, R136). -/
def RawTook (P : List Byte) (s : State) : Prop :=
  s.mode = .raw ∧ s.extra = false ∧ Counts s.pcnt P ∧ s.acc = crcAbsorb crcInit P

theorem rawTook_push {P : List Byte} {s : State} (h : RawTook P s) (b : Byte) :
    RawTook (P ++ [b]) { s with acc := crcUpdate s.acc b, pcnt := satInc s.pcnt } := by
  obtain ⟨hm, hextra, hcnt, hacc⟩ := h
  exact ⟨hm, hextra, counts_concat hcnt b, by rw [crcAbsorb_concat, hacc]⟩

/-! ## The payload flows -/

/-- The payload `P` reaches beyond the covered span (R183, R202). -/
def BeyondSpan (h : Header) (P : List Byte) : Prop :=
  (h.typ = typeData ∧ h.len.toNat < P.length) ∨ (h.typ ≠ typeData ∧ 0 < P.length)

/-- After its header, `s` has taken the payload `P` (R182, R183, R201, R202). -/
def SpanTook (P : List Byte) (s : State) : Prop :=
  Counts s.pcnt P ∧ s.acc = crcAbsorb crcInit (checksumSpan s.params s.header P) ∧
    (s.extra = true ↔ BeyondSpan s.header P)

theorem checksumSpan_nil (p : Params) (h : Header) : checksumSpan p h [] = encodeZeroed p h := by
  simp [checksumSpan]

theorem spanTook_nil {s : State} (hpcnt : s.pcnt = 0#32) (hextra : s.extra = false)
    (hacc : s.acc = crcAbsorb crcInit (encodeZeroed s.params s.header)) : SpanTook [] s := by
  refine ⟨hpcnt ▸ counts_nil, by rw [checksumSpan_nil, hacc], ?_⟩
  simp [hextra, BeyondSpan]

/-- While payload is missing, less has been taken than the header promises. -/
theorem length_lt_of_payloadMissing {P : List Byte} {s : State} (hcnt : Counts s.pcnt P)
    (hp : payloadMissing s = true) : s.hdrType = typeData ∧ P.length < s.hdrLen.toNat := by
  obtain ⟨ht, hlt⟩ := (payloadMissing_iff s).mp hp
  exact ⟨ht, length_lt_of_counts_lt hcnt hlt⟩

theorem extra_eq_false_of_missing {P : List Byte} {s : State} (h : SpanTook P s)
    (hp : payloadMissing s = true) : s.extra = false := by
  obtain ⟨hcnt, -, hextra⟩ := h
  obtain ⟨ht, hlt⟩ := length_lt_of_payloadMissing hcnt hp
  rw [← Bool.not_eq_true, hextra]
  rintro (⟨-, hbeyond⟩ | ⟨hne, -⟩)
  · exact absurd hbeyond hlt.not_gt
  · exact hne ht

/-- One more covered byte. -/
theorem spanTook_covered {P : List Byte} {s : State} (h : SpanTook P s)
    (hp : payloadMissing s = true) (b : Byte) :
    SpanTook (P ++ [b]) { s with acc := crcUpdate s.acc b, pcnt := satInc s.pcnt } := by
  have hextra := extra_eq_false_of_missing h hp
  obtain ⟨hcnt, hacc, -⟩ := h
  obtain ⟨ht, hlt⟩ := length_lt_of_payloadMissing hcnt hp
  have hspan : checksumSpan s.params s.header (P ++ [b]) =
      checksumSpan s.params s.header P ++ [b] := by
    have hht : s.header.typ = typeData := ht
    have hle : (P ++ [b]).length ≤ s.header.len.toNat := by
      rw [List.length_append]
      exact hlt
    have hle' : P.length ≤ s.header.len.toNat := hlt.le
    rw [checksumSpan, checksumSpan, if_pos hht, if_pos hht, List.take_of_length_le hle,
      List.take_of_length_le hle', List.append_assoc]
  refine ⟨counts_concat hcnt b, ?_, ?_⟩
  · change crcUpdate s.acc b = crcAbsorb crcInit (checksumSpan s.params s.header (P ++ [b]))
    rw [hspan, crcAbsorb_concat, hacc]
  · change s.extra = true ↔ BeyondSpan s.header (P ++ [b])
    simp only [hextra, BeyondSpan, State.header, ht, List.length_append, List.length_singleton]
    simp
    omega

/-- One more byte beyond the covered span. -/
theorem spanTook_extra {P : List Byte} {s : State} (h : SpanTook P s)
    (hp : payloadMissing s = false) (b : Byte) :
    SpanTook (P ++ [b]) { s with extra := true, pcnt := satInc s.pcnt } := by
  obtain ⟨hcnt, hacc, -⟩ := h
  have hle (ht : s.hdrType = typeData) : s.hdrLen.toNat ≤ P.length :=
    le_length_of_counts hcnt fun hlt => by simp [(payloadMissing_iff s).mpr ⟨ht, hlt⟩] at hp
  have hspan : checksumSpan s.params s.header (P ++ [b]) = checksumSpan s.params s.header P :=
    checksumSpan_congr s.params fun ht => List.take_append_of_le_length (hle ht)
  refine ⟨counts_concat hcnt b, ?_, ?_⟩
  · change s.acc = crcAbsorb crcInit (checksumSpan s.params s.header (P ++ [b]))
    rw [hspan, hacc]
  · change true = true ↔ BeyondSpan s.header (P ++ [b])
    refine iff_of_true rfl ?_
    by_cases ht : s.hdrType = typeData
    · refine .inl ⟨ht, ?_⟩
      rw [List.length_append]
      exact Nat.lt_succ_of_le (hle ht)
    · exact .inr ⟨ht, by simp⟩

/-- The last header byte opens the payload, none of it taken yet. -/
theorem spanTook_headerLast {s : State} (hinv : s.Inv) (hm : s.mode = .rxh)
    (hn : s.hcnt.toNat + 1 = s.params.hdrSize) (hextra : s.extra = false)
    (hacc : s.acc = crcAbsorb crcInit (zeroCsum s.params (s.hbuf.take s.hcnt.toNat))) (b : Byte) :
    SpanTook [] { setHeader (headerFields s.params (s.hbuf.set s.hcnt.toNat b)) s with
      hbuf := s.hbuf.set s.hcnt.toNat b,
      acc := crcUpdate s.acc (coveredHeaderByte s.params s.hcnt.toNat b), hcnt := s.hcnt + 1#5,
      rxhdr := true, mode := .rxp } := by
  have hlen : (s.hbuf.set s.hcnt.toNat b).length = s.params.hdrSize := by
    rw [List.length_set, hinv.length_hbuf]
  have hacc' := crcUpdate_headerByte (hinv.hcnt_lt_length hm) hacc b
  rw [hn, List.take_of_length_le hlen.le, zeroCsum_eq_encodeZeroed _ hlen] at hacc'
  obtain ⟨-, hclean, -⟩ := hinv
  obtain ⟨-, hpcnt, -⟩ := hclean hm
  exact spanTook_nil hpcnt hextra hacc'

/-! ## The accumulator invariant -/

theorem flowInv_of_idle_or_raw {s : State} (hm : s.mode = .idle ∨ s.mode = .raw) (hraw : s.accOfRaw)
    (hl : s.lenerrNotExtra) : s.FlowInv :=
  ⟨hraw, fun h => by simp [h] at hm, fun h => by rcases hm with hm | hm <;> simp [hm] at h, hl⟩

theorem flowInv_of_idle {s : State} (hm : s.mode = .idle) (hl : s.lenerrNotExtra) : s.FlowInv :=
  flowInv_of_idle_or_raw (.inl hm) (fun h => by simp [hm] at h) hl

theorem flowInv_of_raw {s : State} {P : List Byte} (h : RawTook P s) : s.FlowInv := by
  obtain ⟨hm, hextra, hcnt, hacc⟩ := h
  exact flowInv_of_idle_or_raw (.inr hm) (fun _ => ⟨hextra, P, hcnt, hacc⟩)
    fun h => by simp [hextra] at h

theorem flowInv_of_rxh {s : State} (hm : s.mode = .rxh) (hextra : s.extra = false)
    (hacc : s.acc = crcAbsorb crcInit (zeroCsum s.params (s.hbuf.take s.hcnt.toNat))) : s.FlowInv :=
  ⟨fun h => by simp [hm] at h, fun _ => ⟨hextra, hacc⟩, fun h => by simp [hm] at h,
    fun h => by simp [hextra] at h⟩

theorem flowInv_of_payload {s : State} {P : List Byte} (hm : s.mode = .rxp ∨ s.mode = .txp)
    (h : SpanTook P s) (hl : s.lenerr = false) : s.FlowInv :=
  ⟨fun h => by simp [h] at hm, fun h => by simp [h] at hm, fun _ => ⟨P, h⟩,
    fun h => by simp [hl] at h⟩

theorem resetWith_flowInv (p : Params) : (State.resetWith p).FlowInv :=
  flowInv_of_idle rfl fun h => by simp at h

/-- The invariant looks at neither a sticky flag nor `rdata`. -/
theorem raiseMisuse_flowInv {s : State} (h : s.FlowInv) (m : Misuse) : (raiseMisuse m s).FlowInv := by
  cases m <;> exact h

theorem payloadMissing_of_rxVerdict_eq_lenerr {s : State} (h : rxVerdict s = .lenerr) :
    payloadMissing s = true := by
  unfold rxVerdict at h
  split at h
  · cases h
  · split at h
    · assumption
    · split at h <;> cases h

/-- `LENERR` from `RX_END` means that payload is missing, so none is beyond the span (R305). -/
theorem rxEnd_lenerrNotExtra {s : State} (hflow : s.FlowInv)
    (hm : s.mode = .rxh ∨ s.mode = .rxp) :
    (closeFlow (setVerdict (rxVerdict s) s)).lenerrNotExtra := by
  rintro ⟨hlenerr, hextra⟩
  obtain ⟨-, hheader, hspan, -⟩ := hflow
  rcases hm with hm | hm
  · obtain ⟨hclear, -⟩ := hheader hm
    exact absurd (hextra : s.extra = true) (by simp [hclear])
  · obtain ⟨P, hP⟩ := hspan (.inl hm)
    have hmiss := payloadMissing_of_rxVerdict_eq_lenerr (s := s) (by simpa using hlenerr)
    exact absurd (hextra : s.extra = true) (by simp [extra_eq_false_of_missing hP hmiss])

/-- Every effect of a transaction keeps the accumulator invariant. -/
theorem flowInv_of_effect {s u : State} {T : TxnWord} (hinv : s.Inv) (hflow : s.FlowInv)
    (he : TxnEffect s T u) : u.FlowInv := by
  obtain ⟨hraw, hheader, hspan, hlenerr⟩ := id hflow
  cases he
  case plain | nop | pop => exact hflow
  case misusedCommand m _ _ _ _ => exact raiseMisuse_flowInv hflow m
  case misusedPush | misusedHeaderWrite | underrun => exact raiseMisuse_flowInv hflow _
  case encode _ _ _ hl _ | headerWrite _ hl =>
    exact flowInv_of_idle_or_raw ((headerLocked_eq_false_iff _).mp hl) hraw hlenerr
  case crcStart => exact flowInv_of_raw (P := []) ⟨rfl, rfl, counts_nil, rfl⟩
  case rxBegin => exact flowInv_of_rxh rfl rfl (by simp)
  case rxEnd _ hm => exact flowInv_of_idle rfl (rxEnd_lenerrNotExtra hflow hm)
  case txBegin => exact flowInv_of_payload (.inr rfl) (spanTook_nil rfl rfl rfl) rfl
  case txEndMissing _ hm hp =>
    obtain ⟨P, hP⟩ := hspan (.inr hm)
    have hextra := extra_eq_false_of_missing hP hp
    exact flowInv_of_idle rfl fun h => by simp [hextra] at h
  case txEndSeal => exact flowInv_of_idle rfl fun h => by simp [sealHeader] at h
  case clr => exact resetWith_flowInv s.params
  case pushRaw b _ hm =>
    obtain ⟨hextra, P, hcnt, hacc⟩ := hraw hm
    exact flowInv_of_raw (rawTook_push ⟨hm, hextra, hcnt, hacc⟩ b)
  case pushHeader b _ hm hn =>
    obtain ⟨hextra, hacc⟩ := hheader hm
    have hacc' := crcUpdate_headerByte (hinv.hcnt_lt_length hm) hacc b
    rw [← hinv.toNat_hcnt_succ hm] at hacc'
    exact flowInv_of_rxh hm hextra hacc'
  case pushHeaderLast b _ hm hn =>
    obtain ⟨hextra, hacc⟩ := hheader hm
    obtain ⟨-, -, -, -, hclear⟩ := hinv.no_verdict_of_ne_idle (by simp [hm])
    exact flowInv_of_payload (.inl rfl) (spanTook_headerLast hinv hm hn hextra hacc b) hclear
  case pushCovered b _ hm hp =>
    obtain ⟨P, hP⟩ := hspan hm
    obtain ⟨-, -, -, -, hclear⟩ := hinv.no_verdict_of_ne_idle (ne_idle_of_payload hm)
    exact flowInv_of_payload hm (spanTook_covered hP hp b) hclear
  case pushExtra b _ hm hp =>
    obtain ⟨P, hP⟩ := hspan hm
    obtain ⟨-, -, -, -, hclear⟩ := hinv.no_verdict_of_ne_idle (ne_idle_of_payload hm)
    exact flowInv_of_payload hm (spanTook_extra hP hp b) hclear

/-- Settles O54: the reset state has no flow open. -/
theorem resetMeetsTheInvariants : Obligations.ResetMeetsTheInvariants := by
  unfold Obligations.ResetMeetsTheInvariants
  exact ⟨fun p => ⟨resetWith_inv p, resetWith_flowInv p⟩, rfl⟩

/-- Settles O55, from the effects of a transaction. -/
theorem stepKeepsTheAccumulatorInvariant : Obligations.StepKeepsTheAccumulatorInvariant := by
  unfold Obligations.StepKeepsTheAccumulatorInvariant
  intro s t hinv hflow h
  have hboth : t.Inv ∧ t.FlowInv := step_keeps (P := fun s => s.Inv ∧ s.FlowInv)
    (fun _ _ _ h => h) (fun s _ => ⟨resetBlock_inv s, resetWith_flowInv s.params⟩)
    (fun _ _ _ ⟨hi, hf⟩ he => ⟨inv_of_effect hi he, flowInv_of_effect hi hf he⟩) ⟨hinv, hflow⟩ h
  exact hboth.right

end Sys2Proof.Machine
end

section
/-! PROOFS. Running a flow (spec/20_memory.md R70): what every transaction of a sequence keeps, in the bytes pushed
so far, holds at its end. The RAW flow (spec/40_crc32.md R139) and the encode flow (spec/41_codec.md R168). -/

namespace Sys2Proof.Machine

/-! ## Sequences -/

theorem runTxns_singleton {T : TxnWord} {s t : State} (h : stepWord T s = .next t) :
    runTxns [T] s = .next (t, [t.rdata]) :=
  runTxns_cons h (runTxns_nil t)

theorem pushedBytes_cons (T : TxnWord) (Ts : List TxnWord) :
    pushedBytes (T :: Ts) = (pushedByte T).toList ++ pushedBytes Ts := by
  cases h : pushedByte T <;> simp [pushedBytes, h]

/-- What holds of the bytes pushed so far, and every effect of an allowed transaction carries on, holds at the
end of a sequence of them. -/
theorem run_keeps {P : List Byte → State → Prop} {allowed : TxnWord → Prop}
    (port : ∀ L s v, P L s → P L { s with rdata := v })
    (effect : ∀ L s T u, P L s → allowed T → TxnEffect s T u → P (L ++ (pushedByte T).toList) u)
    {Ts : List TxnWord} (hTs : ∀ T ∈ Ts, allowed T) {L : List Byte} {s : State} (hs : P L s) :
    ∃ t reads, runTxns Ts s = .next (t, reads) ∧ P (L ++ pushedBytes Ts) t := by
  induction Ts generalizing L s with
  | nil => exact ⟨s, [], rfl, by simpa [pushedBytes] using hs⟩
  | cons T Ts ih =>
    obtain ⟨hT, hrest⟩ := List.forall_mem_cons.mp hTs
    obtain ⟨t, ht⟩ := stepWord_completes T s
    obtain ⟨u, v, he, rfl⟩ := effected ht
    obtain ⟨t', reads, hrun, hP⟩ := ih hrest (port _ u v (effect L s T u hs hT he))
    refine ⟨t', _, runTxns_cons ht hrun, ?_⟩
    rwa [pushedBytes_cons, ← List.append_assoc]

theorem asks_cmdTxn (op : Byte) : Asks (cmdTxn op) (some op) none false where
  command := by simp [commandOf, cmdTxn, writeTxn]
  pushed := by simp [pushedByte, cmdTxn, writeTxn]
  headerWrite := by simp [writesHeader, cmdTxn, writeTxn]

theorem Asks.append_no_push {T : TxnWord} {c : Option Byte} {w : Bool} (ask : Asks T c none w)
    (L : List Byte) : L ++ (pushedByte T).toList = L := by
  simp [ask.pushed]

theorem Asks.append_push {T : TxnWord} {c : Option Byte} {b : Byte} {w : Bool}
    (ask : Asks T c (some b) w) (L : List Byte) : L ++ (pushedByte T).toList = L ++ [b] := by
  simp [ask.pushed]

/-! ## The RAW flow -/

/-- A transaction that neither opens a flow nor clears the block (R139). -/
def StaysInFlow (T : TxnWord) : Prop := opensFlow T = false ∧ isClr T = false

theorem rawTook_effect {P : List Byte} {s u : State} {T : TxnWord} (h : RawTook P s)
    (hT : StaysInFlow T) (he : TxnEffect s T u) : RawTook (P ++ (pushedByte T).toList) u := by
  obtain ⟨hm, -⟩ := id h
  obtain ⟨hopen, hclr⟩ := hT
  cases he
  case plain ask | nop ask | pop ask _ | misusedHeaderWrite ask _ | underrun ask _ |
      headerWrite ask _ | encode _ ask _ _ _ =>
    rw [ask.append_no_push]
    exact h
  case misusedCommand m _ ask _ _ =>
    rw [ask.append_no_push]
    cases m <;> exact h
  case pushRaw b ask _ =>
    rw [ask.append_push]
    exact rawTook_push h b
  case crcStart ask | rxBegin ask | txBegin ask => simp [opensFlow, ask.command] at hopen
  case clr ask => simp [isClr, ask.command] at hclr
  case misusedPush hm' | txEndMissing hm' _ | txEndSeal hm' _ | pushHeader hm' _ |
      pushHeaderLast hm' _ | rxEnd hm' | pushCovered hm' _ | pushExtra hm' _ =>
    simp [hm] at hm'

theorem exec_rdCrcOut_of_acc {s : State} {L : List Byte} (hacc : s.acc = crcAbsorb crcInit L)
    (w : Word) : exec (.rdCrcOut w) s = .next { s with rdata := crc32 L } := by
  have hcrc : s.acc ^^^ 0xFFFFFFFF#32 = crc32 L := by rw [hacc]; rfl
  rw [exec_rdCrcOut, hcrc, finishRead]

/-- Settles O22: `CRC_START` opens the flow with nothing taken, and every transaction after it carries the bytes
on. -/
theorem rawFlowComputesChecksum : Obligations.RawFlowComputesChecksum := by
  unfold Obligations.RawFlowComputesChecksum
  intro s Ts hTs
  have hstart : stepWord (cmdTxn 1#8) s = finishWrite
      { clearFlowFlags s with acc := crcInit, pcnt := 0#32, mode := .raw } := stepWord_cmd 1#8 s
  have hopen : RawTook [] { clearFlowFlags s with
      acc := crcInit, pcnt := 0#32, mode := .raw, rdata := 0#32 } := ⟨rfl, rfl, counts_nil, rfl⟩
  obtain ⟨t, reads, hrun, hm, -, hcnt, hacc⟩ :=
    run_keeps (P := RawTook) (fun _ _ _ h => h) (fun _ _ _ _ => rawTook_effect) hTs hopen
  rw [List.nil_append] at hcnt hacc
  exact ⟨t, _, runTxns_cons hstart hrun, hm, hcnt, exec_rdCrcOut_of_acc hacc⟩

/-! ## Popping the byte buffer -/

theorem stepWord_popTxn (s : State) : stepWord popTxn s = execPop s := stepWord_read 7#6 s

theorem popTxns_succ (n : Nat) : popTxns (n + 1) = popTxn :: popTxns n := rfl

/-- Popping no more than is left returns the bytes in order and sets no flag (R166). -/
theorem runTxns_popTxns (n : Nat) (s : State) (hn : s.rptr.toNat + n ≤ s.hcnt.toNat)
    (hlen : s.hcnt.toNat ≤ s.hbuf.length) :
    ∃ t, runTxns (popTxns n) s =
        .next (t, ((s.hbuf.drop s.rptr.toNat).take n).map (·.setWidth 32)) ∧ SameSticky s t := by
  induction n generalizing s with
  | zero => exact ⟨s, by simp [popTxns, runTxns], rfl, rfl, rfl⟩
  | succ n ih =>
    have hlt : s.rptr < s.hcnt := by bv_omega
    have hnext : (s.rptr + 1#5).toNat = s.rptr.toNat + 1 := by bv_omega
    have hin : s.rptr.toNat < s.hbuf.length := by omega
    have hpop := (stepWord_popTxn s).trans (execPop_of_lt hlt)
    obtain ⟨t, hrun, hsticky⟩ := ih { s with
      rptr := s.rptr + 1#5, rdata := zextByte (byteAt s.hbuf s.rptr.toNat) }
      (by simp only [hnext]; omega) hlen
    refine ⟨t, ?_, hsticky⟩
    rw [popTxns_succ, runTxns_cons hpop hrun, List.drop_eq_getElem_cons hin, hnext,
      byteAt_eq_getElem _ _ hin]
    rfl

/-- Popping with nothing left returns zeros and underruns (R166). -/
theorem runTxns_popTxns_empty (n : Nat) (s : State) (hempty : ¬s.rptr < s.hcnt) :
    ∃ t, runTxns (popTxns n) s = .next (t, List.replicate n 0#32) ∧
      (0 < n ∨ s.underrun = true → t.underrun = true) := by
  induction n generalizing s with
  | zero => exact ⟨s, rfl, by simp⟩
  | succ n ih =>
    have hpop := (stepWord_popTxn s).trans (execPop_of_not_lt hempty)
    obtain ⟨t, hrun, hunder⟩ := ih { s with underrun := true, rdata := 0#32 } hempty
    exact ⟨t, runTxns_cons hpop hrun, fun _ => hunder (.inr rfl)⟩

/-! ## Writing the header registers -/

/-- A type that fits the type field is stored whole (R156, R100). -/
theorem truncType_of_lt {p : Params} {t : Word} (h : t.toNat < 2 ^ p.typeWidth) :
    truncType p t = t := by
  cases hp : p.typeBytes
  case one =>
    rw [typeWidth_of_one hp] at h
    rw [truncType, hp]
    exact zextByte_lowByte_of_lt h
  case four => exact truncType_of_four hp t

theorem stepWord_writeType {s : State} {typ : Word} (hm : s.mode = .idle ∨ s.mode = .raw)
    (ht : typ.toNat < 2 ^ s.params.typeWidth) : stepWord (writeTxn 0 typ) s =
      .next { s with hdrType := typ, rxhdr := false, rdata := 0#32 } := by
  refine (stepWord_write 0 typ s).trans ((exec_wrHdrType typ s).trans ?_)
  rw [unlessLocked_of_idle_or_raw hm, truncType_of_lt ht]

theorem stepWord_writeSeq {s : State} (hm : s.mode = .idle ∨ s.mode = .raw) (seq : Word) :
    stepWord (writeTxn 1 seq) s = .next { s with hdrSeq := seq, rxhdr := false, rdata := 0#32 } :=
  (stepWord_write 1 seq s).trans (unlessLocked_of_idle_or_raw hm _)

theorem stepWord_writeLen {s : State} (hm : s.mode = .idle ∨ s.mode = .raw) (len : Word) :
    stepWord (writeTxn 2 len) s = .next { s with hdrLen := len, rxhdr := false, rdata := 0#32 } :=
  (stepWord_write 2 len s).trans (unlessLocked_of_idle_or_raw hm _)

theorem stepWord_writeCsum {s : State} (hm : s.mode = .idle ∨ s.mode = .raw) (csum : Word) :
    stepWord (writeTxn 3 csum) s = .next { s with hdrCsum := csum, rxhdr := false, rdata := 0#32 } :=
  (stepWord_write 3 csum s).trans (unlessLocked_of_idle_or_raw hm _)

/-- The state after host writes that leave the header registers at `h`. -/
def hostWroteHeader (h : Header) (s : State) : State :=
  { setHeader h s with rxhdr := false, rdata := 0#32 }

/-- `SETHDR` in IDLE and RAW (R109). -/
theorem runTxns_setHdrTxns {s : State} {typ : Word} (hm : s.mode = .idle ∨ s.mode = .raw)
    (ht : typ.toNat < 2 ^ s.params.typeWidth) (seq len : Word) :
    runTxns (setHdrTxns typ seq len) s =
      .next (hostWroteHeader ⟨typ, seq, len, s.hdrCsum⟩ s, [0#32, 0#32, 0#32]) := by
  refine runTxns_cons (stepWord_writeType hm ht) (runTxns_cons (stepWord_writeSeq ?_ seq)
    (runTxns_singleton (stepWord_writeLen ?_ len))) <;> exact hm

/-- The state after `ENC` or `ENC0` has loaded the image of `h`. -/
def loadedImage (h : Header) (s : State) : State :=
  { loadHbuf (encodeHeader s.params h) s with rdata := 0#32 }

/-- `ENC` loads the header as it stands, `ENC0` with its checksum field 0 (R164, R165). -/
theorem stepWord_encodeTxn {s : State} {op : Byte} {csum : Word} (hm : s.mode = .idle ∨ s.mode = .raw)
    (hop : (op = 2#8 ∧ csum = s.hdrCsum) ∨ (op = 3#8 ∧ csum = 0#32)) :
    stepWord (cmdTxn op) s = .next (loadedImage { s.header with csum := csum } s) := by
  rcases hop with ⟨rfl, rfl⟩ | ⟨rfl, rfl⟩
  · exact (stepWord_cmd 2#8 s).trans (unlessLocked_of_idle_or_raw hm _)
  · exact (stepWord_cmd 3#8 s).trans (unlessLocked_of_idle_or_raw hm _)

/-- Popping `HDR_SIZE` bytes of a loaded image returns the image. -/
theorem runTxns_popTxns_image {s : State} {H : List Byte} (hbuf : s.hbuf = H)
    (hlen : H.length = s.params.hdrSize) (hcnt : s.hcnt = BitVec.ofNat 5 s.params.hdrSize)
    (hrptr : s.rptr = 0#5) : ∃ t, runTxns (popTxns s.params.hdrSize) s =
      .next (t, H.map (·.setWidth 32)) ∧ SameSticky s t := by
  have hfull : s.hcnt.toNat = s.params.hdrSize := by rw [hcnt, toNat_ofNat_hdrSize]
  obtain ⟨t, hrun, hsticky⟩ := runTxns_popTxns s.params.hdrSize s (by simp [hrptr, hfull])
    (by rw [hfull, hbuf, hlen])
  refine ⟨t, ?_, hsticky⟩
  rw [hrun, hrptr, hbuf]
  simp [← hlen]

/-- Settles O27: the registers are written, the image loaded, and its bytes popped. -/
theorem encodeFlowReturnsTheWireImage : Obligations.EncodeFlowReturnsTheWireImage := by
  unfold Obligations.EncodeFlowReturnsTheWireImage
  intro s h hm ht op csum hop
  have hcsum := stepWord_writeCsum (s := hostWroteHeader ⟨h.typ, h.seq, h.len, s.hdrCsum⟩ s) hm h.csum
  have henc := stepWord_encodeTxn (s := hostWroteHeader h s) (op := op) (csum := csum) hm hop
  obtain ⟨t, hpops, hsticky⟩ := runTxns_popTxns_image
    (s := loadedImage { h with csum := csum } (hostWroteHeader h s)) rfl
    (length_encodeHeader s.params _) rfl rfl
  have hload := runTxns_append (runTxns_setHdrTxns hm ht h.seq h.len)
    (runTxns_cons hcsum (runTxns_singleton henc))
  exact ⟨t, _, runTxns_append hload hpops, rfl, hsticky⟩

end Sys2Proof.Machine
end

section
/-! PROOFS. The RX flow (spec/42_rx_validate.md R186) and the TX flow (spec/43_tx_seal.md R204): what the block has
made of the bytes taken so far, kept by every transaction of the flow, and what the last command makes of it. -/

namespace Sys2Proof.Machine

/-! ## What an RX flow has taken -/

/-- In RXH, the bytes `F` of a header that is not complete. -/
def RxhTook (s0 : State) (F : List Byte) (s : State) : Prop :=
  s.mode = .rxh ∧ s.extra = false ∧ s.header = s0.header ∧ s.hcnt.toNat = F.length ∧
    s.hbuf.take s.hcnt.toNat = F ∧ s.acc = crcAbsorb crcInit (zeroCsum s.params F)

/-- In RXP, the header bytes `H` and the payload `P`. -/
def RxpTook (H P : List Byte) (s : State) : Prop :=
  s.mode = .rxp ∧ s.hbuf = H ∧ SpanTook P s

/-- After `RX_BEGIN` in `s0`, the bytes `F` of a frame. -/
def RxTook (s0 : State) (F : List Byte) (s : State) : Prop :=
  s.Inv ∧ s.params = s0.params ∧ (RxhTook s0 F s ∨ ∃ H P, F = H ++ P ∧ RxpTook H P s)

theorem rxhTook_effect {s0 s u : State} {F : List Byte} {T : TxnWord} (hinv : s.Inv)
    (h : RxhTook s0 F s) (hc : commandOf T = none) (he : TxnEffect s T u) :
    RxhTook s0 (F ++ (pushedByte T).toList) u ∨
      ∃ H P, F ++ (pushedByte T).toList = H ++ P ∧ RxpTook H P u := by
  obtain ⟨hm, hextra, hhdr, hcnt, hbuf, hacc⟩ := id h
  cases he
  case plain ask | pop ask _ | misusedHeaderWrite ask _ | underrun ask _ =>
    rw [ask.append_no_push]
    exact .inl h
  case pushHeader b ask _ hn =>
    rw [ask.append_push]
    have hsucc := hinv.toNat_hcnt_succ hm
    have hstored := take_set_succ s.hbuf (hinv.hcnt_lt_length hm) b
    have hacc' := crcUpdate_headerByte (p := s.params) (acc := s.acc) (hinv.hcnt_lt_length hm)
      (by rw [hacc, hbuf]) b
    rw [hbuf] at hstored
    rw [hstored] at hacc'
    exact .inl ⟨hm, hextra, hhdr, by simp [hsucc, hcnt], by rw [← hstored, ← hsucc], hacc'⟩
  case pushHeaderLast b ask _ hn =>
    rw [ask.append_push]
    have hlen : (s.hbuf.set s.hcnt.toNat b).length = s.params.hdrSize := by
      rw [List.length_set, hinv.length_hbuf]
    have hstored := take_set_succ s.hbuf (hinv.hcnt_lt_length hm) b
    rw [hbuf, hn, List.take_of_length_le hlen.le] at hstored
    exact .inr ⟨F ++ [b], [], by simp, rfl, hstored,
      spanTook_headerLast hinv hm hn hextra (by rw [hacc, hbuf]) b⟩
  case headerWrite hl => simp [hm, headerLocked] at hl
  case misusedPush hm' | pushRaw hm' => simp [hm] at hm'
  case pushCovered hm' _ | pushExtra hm' _ => simp [hm] at hm'
  case nop ask | misusedCommand ask _ _ | crcStart ask | encode ask _ _ _ | rxBegin ask | rxEnd ask _ |
      txBegin ask | txEndMissing ask _ _ | txEndSeal ask _ _ | clr ask =>
    simp [ask.command] at hc

theorem rxpTook_effect {s u : State} {H P : List Byte} {T : TxnWord}
    (h : RxpTook H P s) (hc : commandOf T = none) (he : TxnEffect s T u) :
    RxpTook H (P ++ (pushedByte T).toList) u := by
  obtain ⟨hm, hbuf, hspan⟩ := id h
  cases he
  case plain ask | pop ask _ | misusedHeaderWrite ask _ | underrun ask _ =>
    rw [ask.append_no_push]
    exact h
  case pushCovered b ask _ hp =>
    rw [ask.append_push]
    exact ⟨hm, hbuf, spanTook_covered hspan hp b⟩
  case pushExtra b ask _ hp =>
    rw [ask.append_push]
    exact ⟨hm, hbuf, spanTook_extra hspan hp b⟩
  case headerWrite hl => simp [hm, headerLocked] at hl
  case misusedPush hm' | pushRaw hm' | pushHeader hm' _ | pushHeaderLast hm' _ => simp [hm] at hm'
  case nop ask | misusedCommand ask _ _ | crcStart ask | encode ask _ _ _ | rxBegin ask | rxEnd ask _ |
      txBegin ask | txEndMissing ask _ _ | txEndSeal ask _ _ | clr ask =>
    simp [ask.command] at hc

theorem params_of_effect {s u : State} {T : TxnWord} (he : TxnEffect s T u) : u.params = s.params := by
  cases he <;> simp [sealHeader]

theorem rxTook_effect {s0 s u : State} {F : List Byte} {T : TxnWord} (h : RxTook s0 F s)
    (hc : commandOf T = none) (he : TxnEffect s T u) :
    RxTook s0 (F ++ (pushedByte T).toList) u := by
  obtain ⟨hinv, hparams, h⟩ := h
  refine ⟨inv_of_effect hinv he, (params_of_effect he).trans hparams, ?_⟩
  rcases h with h | ⟨H, P, rfl, h⟩
  · exact rxhTook_effect hinv h hc he
  · exact .inr ⟨H, P ++ (pushedByte T).toList, by simp, rxpTook_effect h hc he⟩

/-! ## The verdict on the bytes taken -/

/-- A header buffer that decodes, followed by payload, decodes to the header and the payload. -/
theorem decodeHeader_append {p : Params} {H : List Byte} {h : Header}
    (hd : decodeHeader p H = some (h, [])) (P : List Byte) :
    decodeHeader p (H ++ P) = some (h, P) := by
  have hH := encodeHeader_append_of_decodeHeader hd
  rw [List.append_nil] at hH
  rw [← hH, decodeHeader_encodeHeader_append p h (typ_lt_of_decodeHeader hd)]

/-- An incomplete header does not decode, and the verdict says so (R180, R184). -/
theorem rxhTook_verdict {s0 s : State} {F : List Byte} (hinv : s.Inv) (h : RxhTook s0 F s) :
    decodeHeader s.params F = none ∧ rxVerdict s = validate s.params F := by
  obtain ⟨hm, -, -, hcnt, -, -⟩ := h
  obtain ⟨-, hclean, -⟩ := hinv
  obtain ⟨hlt, -, -⟩ := hclean hm
  have hd : decodeHeader s.params F = none := decodeHeader_eq_none.mpr (hcnt ▸ hlt)
  refine ⟨hd, ?_⟩
  rw [rxVerdict_of_short hlt, validate, hd]

theorem payloadMissing_iff_length {s : State} {P : List Byte} (hcnt : Counts s.pcnt P) :
    payloadMissing s = true ↔ s.header.typ = typeData ∧ P.length < s.header.len.toNat := by
  refine ⟨length_lt_of_payloadMissing hcnt, fun ⟨ht, hlt⟩ => (payloadMissing_iff s).mpr ⟨ht, ?_⟩⟩
  by_contra hge
  exact absurd (le_length_of_counts hcnt hge) hlt.not_ge

/-- With a whole header the verdict is that of the frame (R180, R184). -/
theorem rxpTook_verdict {s : State} {H P : List Byte} (hinv : s.Inv) (h : RxpTook H P s) :
    decodeHeader s.params (H ++ P) = some (s.header, P) ∧
      rxVerdict s = validate s.params (H ++ P) := by
  obtain ⟨hm, rfl, hcnt, hacc, -⟩ := h
  obtain ⟨-, -, hdecoded, -⟩ := hinv
  obtain ⟨hfull, -, hd⟩ := hdecoded hm
  have hd' := decodeHeader_append hd P
  refine ⟨hd', ?_⟩
  have hcrc : crcOut s = crc32 (checksumSpan s.params s.header P) := by rw [crcOut, hacc]; rfl
  rw [validate_of_decodeHeader hd', rxVerdict, if_neg hfull.not_lt, hcrc]
  simp only [payloadMissing_iff_length hcnt]
  rfl

/-! ## The whole RX flow -/

/-- The state `RX_END` leaves in an open flow (R184). -/
def rxEnded (s : State) : State := { closeFlow (setVerdict (rxVerdict s) s) with rdata := 0#32 }

@[simp] theorem rxEnded_header (s : State) : (rxEnded s).header = s.header := by
  simp [rxEnded, State.header]
@[simp] theorem rxEnded_acc (s : State) : (rxEnded s).acc = s.acc := by simp [rxEnded]
@[simp] theorem rxEnded_hbuf (s : State) : (rxEnded s).hbuf = s.hbuf := by simp [rxEnded]
@[simp] theorem rxEnded_hcnt (s : State) : (rxEnded s).hcnt = s.hcnt := by simp [rxEnded]
@[simp] theorem rxEnded_pcnt (s : State) : (rxEnded s).pcnt = s.pcnt := by simp [rxEnded]
@[simp] theorem rxEnded_extra (s : State) : (rxEnded s).extra = s.extra := by simp [rxEnded]
@[simp] theorem rxEnded_rxhdr (s : State) : (rxEnded s).rxhdr = s.rxhdr := by simp [rxEnded]

theorem stepWord_rxEndTxn {s : State} (hm : s.mode = .rxh ∨ s.mode = .rxp) :
    stepWord (cmdTxn 5#8) s = .next (rxEnded s) :=
  (stepWord_cmd 5#8 s).trans (exec_rxEnd_of_rxOpen hm _)

/-- `RX_BEGIN`, then the frame with no other command between. -/
theorem runTxns_rxBegin {s : State} (hinv : s.Inv) {Ts : List TxnWord}
    (hTs : ∀ T ∈ Ts, commandOf T = none) : ∃ t reads,
      runTxns (cmdTxn 4#8 :: Ts) s = .next (t, reads) ∧ RxTook s (pushedBytes Ts) t := by
  have hbegin : stepWord (cmdTxn 4#8) s = finishWrite (openHeaderFlow crcInit .rxh s) :=
    stepWord_cmd 4#8 s
  have hinv' : (openHeaderFlow crcInit .rxh s).Inv :=
    inv_of_effect hinv (.rxBegin (asks_cmdTxn 4#8))
  have hopen : RxTook s [] { openHeaderFlow crcInit .rxh s with rdata := 0#32 } :=
    ⟨hinv', rfl, .inl ⟨rfl, rfl, rfl, rfl, rfl, by simp⟩⟩
  obtain ⟨t, reads, hrun, htook⟩ := run_keeps (P := RxTook s) (fun _ _ _ h => h)
    (fun _ _ _ _ => rxTook_effect) hTs hopen
  exact ⟨t, _, runTxns_cons hbegin hrun, htook⟩

theorem rxTook_mode {s0 s : State} {F : List Byte} (h : RxTook s0 F s) :
    s.mode = .rxh ∨ s.mode = .rxp := by
  obtain ⟨-, -, ⟨hm, -⟩ | ⟨-, -, -, hm, -⟩⟩ := h
  · exact .inl hm
  · exact .inr hm

theorem rxTook_verdict {s0 s : State} {F : List Byte} (h : RxTook s0 F s) :
    rxVerdict s = validate s0.params F := by
  obtain ⟨hinv, hparams, h | ⟨H, P, rfl, h⟩⟩ := h
  · obtain ⟨-, hv⟩ := rxhTook_verdict hinv h
    exact hparams ▸ hv
  · obtain ⟨-, hv⟩ := rxpTook_verdict hinv h
    exact hparams ▸ hv

/-- What the block holds of a whole header and its payload (R186 (b) to (e)). -/
theorem rxTook_decoded {s0 s : State} {F P : List Byte} {h : Header} (hs : RxTook s0 F s)
    (hd : decodeHeader s0.params F = some (h, P)) :
    s.header = h ∧ s.rxhdr = true ∧ s.hcnt.toNat = s0.params.hdrSize ∧
      s.hbuf = F.take s0.params.hdrSize ∧ SpanTook P s := by
  obtain ⟨hinv, hparams, h | ⟨H, P', rfl, h⟩⟩ := hs
  · obtain ⟨hnone, -⟩ := rxhTook_verdict hinv h
    rw [hparams, hd] at hnone
    cases hnone
  · obtain ⟨hd', -⟩ := rxpTook_verdict hinv h
    rw [hparams, hd] at hd'
    obtain ⟨rfl, rfl⟩ := Prod.mk.inj (Option.some.inj hd')
    have hlen := hinv.length_hbuf
    obtain ⟨hm, rfl, hspan⟩ := h
    obtain ⟨-, -, hdecoded, -⟩ := hinv
    obtain ⟨hfull, hrxhdr, -⟩ := hdecoded hm
    rw [← hparams]
    exact ⟨rfl, hrxhdr, hfull, (List.take_left' hlen).symm, hspan⟩

/-- What the block holds of an incomplete header (R186). -/
theorem rxTook_short {s0 s : State} {F : List Byte} (hs : RxTook s0 F s)
    (hd : decodeHeader s0.params F = none) :
    s.header = s0.header ∧ s.rxhdr = false ∧ s.hcnt.toNat = F.length ∧ s.pcnt = 0#32 ∧
      s.extra = false := by
  obtain ⟨hinv, hparams, h | ⟨H, P, rfl, h⟩⟩ := hs
  · obtain ⟨hm, hextra, hhdr, hcnt, -, -⟩ := h
    obtain ⟨-, hclean, -⟩ := hinv
    obtain ⟨-, hpcnt, hrxhdr⟩ := hclean hm
    exact ⟨hhdr, hrxhdr, hcnt, hpcnt, hextra⟩
  · obtain ⟨hsome, -⟩ := rxpTook_verdict hinv h
    rw [hparams, hd] at hsome
    cases hsome

/-- The verdict flags `RX_END` leaves are those of the verdict it reached. -/
theorem rxEnded_flags {s : State} {v : Verdict} (hv : rxVerdict s = v) :
    (rxEnded s).done = true ∧ (rxEnded s).mode = .idle ∧
      (rxEnded s).accept = decide (v = .accept) ∧ (rxEnded s).crcErr = decide (v = .crcErr) ∧
      (rxEnded s).short = decide (v = .short) ∧ (rxEnded s).lenerr = decide (v = .lenerr) := by
  subst hv
  exact ⟨rfl, rfl, rfl, rfl, rfl, rfl⟩

/-- Settles O33: the bytes are carried through the flow, and `RX_END` touches only the flow flags. -/
theorem rxFlowValidatesTheFrame : Obligations.RxFlowValidatesTheFrame := by
  unfold Obligations.RxFlowValidatesTheFrame
  intro s Ts F hinv hTs hF hlen
  obtain ⟨t, reads, hrun, htook⟩ := runTxns_rxBegin hinv hTs
  rw [hF] at htook
  have hend := runTxns_singleton (stepWord_rxEndTxn (rxTook_mode htook))
  refine ⟨rxEnded t, _, runTxns_append hrun hend, rxEnded_flags (rxTook_verdict htook),
    fun h P hd => ?decoded, fun hd => ?short⟩
  case short => simpa using rxTook_short htook hd
  obtain ⟨hheader, hrxhdr, hhcnt, hbuf, hcnt, hacc, hextra⟩ := rxTook_decoded htook hd
  obtain ⟨-, hparams, -⟩ := htook
  rw [hparams, hheader] at hacc
  rw [hheader] at hextra
  have hpcnt : t.pcnt.toNat = P.length := by
    obtain ⟨-, -, rfl⟩ := decodeHeader_eq_some.mp hd
    rw [hcnt, List.length_drop]
    omega
  exact ⟨(rxEnded_header t).trans hheader, (rxEnded_rxhdr t).trans hrxhdr,
    by rw [rxEnded_hcnt, hhcnt], (rxEnded_hbuf t).trans hbuf, by rw [rxEnded_pcnt, hpcnt],
    by rw [rxEnded_extra]; exact hextra,
    fun _ => exec_rdCrcOut_of_acc ((rxEnded_acc t).trans hacc)⟩

/-! ## What a TX flow has taken -/

/-- In TXP since `TX_BEGIN` with header `h`, the payload `P`, and no misuse since `s0`. -/
def TxpTook (s0 : State) (h : Header) (P : List Byte) (s : State) : Prop :=
  s.mode = .txp ∧ s.params = s0.params ∧ s.header = h ∧ s.hcnt = 0#5 ∧ s.rptr = 0#5 ∧
    SameSticky s0 s ∧ SpanTook P s

theorem txpTook_effect {s0 s u : State} {h : Header} {P : List Byte} {T : TxnWord}
    (hs : TxpTook s0 h P s) (hT : ∃ b, pushedByte T = some b) (he : TxnEffect s T u) :
    TxpTook s0 h (P ++ (pushedByte T).toList) u := by
  obtain ⟨hm, hparams, hhdr, hhcnt, hrptr, hsticky, hspan⟩ := hs
  obtain ⟨b, hb⟩ := hT
  cases he
  case pushCovered b ask _ hp =>
    rw [ask.append_push]
    exact ⟨hm, hparams, hhdr, hhcnt, hrptr, hsticky, spanTook_covered hspan hp b⟩
  case pushExtra b ask _ hp =>
    rw [ask.append_push]
    exact ⟨hm, hparams, hhdr, hhcnt, hrptr, hsticky, spanTook_extra hspan hp b⟩
  case misusedPush hm' | pushRaw hm' | pushHeader hm' _ | pushHeaderLast hm' _ => simp [hm] at hm'
  case plain ask | nop ask | misusedCommand ask _ _ | misusedHeaderWrite ask _ | underrun ask _ |
      pop ask _ | headerWrite ask _ | crcStart ask | encode ask _ _ _ | rxBegin ask | rxEnd ask _ |
      txBegin ask | txEndMissing ask _ _ | txEndSeal ask _ _ | clr ask =>
    simp [ask.pushed] at hb

theorem pushedByte_pushTxn (b : Byte) : pushedByte (pushTxn b) = some b := by
  simp [pushedByte, pushTxn, writeTxn]

theorem pushedBytes_pushTxns (P : List Byte) : pushedBytes (pushTxns P) = P := by
  induction P with
  | nil => rfl
  | cons b P ih =>
    have hcons : pushTxns (b :: P) = pushTxn b :: pushTxns P := rfl
    rw [hcons, pushedBytes_cons, pushedByte_pushTxn, ih]
    rfl

/-- `SEAL` up to its `TX_END`, from IDLE or RAW. -/
theorem runTxns_txBegin {s : State} {typ : Word} (hm : s.mode = .idle ∨ s.mode = .raw)
    (ht : typ.toNat < 2 ^ s.params.typeWidth) (seq len : Word) (P : List Byte) : ∃ t reads,
      runTxns (setHdrTxns typ seq len ++ [cmdTxn 6#8] ++ pushTxns P) s = .next (t, reads) ∧
        TxpTook s ⟨typ, seq, len, s.hdrCsum⟩ P t := by
  have hset := runTxns_setHdrTxns hm ht seq len
  have hbegin := stepWord_cmd 6#8 (hostWroteHeader ⟨typ, seq, len, s.hdrCsum⟩ s)
  have hopen : TxpTook s ⟨typ, seq, len, s.hdrCsum⟩ []
      { openHeaderFlow (crcAbsorb crcInit (encodeZeroed s.params ⟨typ, seq, len, s.hdrCsum⟩)) .txp
          (hostWroteHeader ⟨typ, seq, len, s.hdrCsum⟩ s) with rdata := 0#32 } :=
    ⟨rfl, rfl, rfl, rfl, rfl, ⟨rfl, rfl, rfl⟩, spanTook_nil rfl rfl rfl⟩
  have hpush : ∀ T ∈ pushTxns P, ∃ b, pushedByte T = some b := by
    intro T hT
    obtain ⟨b, -, rfl⟩ := List.mem_map.mp hT
    exact ⟨b, pushedByte_pushTxn b⟩
  obtain ⟨t, reads, hrun, htook⟩ := run_keeps (P := TxpTook s ⟨typ, seq, len, s.hdrCsum⟩)
    (fun _ _ _ h => h) (fun _ _ _ _ => txpTook_effect) hpush hopen
  rw [List.nil_append, pushedBytes_pushTxns] at htook
  exact ⟨t, _, runTxns_append (runTxns_append hset (runTxns_singleton hbegin)) hrun, htook⟩

/-! ## The end of a TX flow -/

/-- The state `TX_END` leaves when payload is missing (R203). -/
def txRefused (s : State) : State := { closeFlow { s with lenerr := true } with rdata := 0#32 }

/-- The state `TX_END` leaves when it seals (R203). -/
def txSealed (s : State) : State :=
  { closeFlow (sealHeader { s with lenerr := false }) with rdata := 0#32 }

theorem stepWord_txEndTxn_missing {s : State} (hm : s.mode = .txp) (hp : payloadMissing s = true) :
    stepWord (cmdTxn 7#8) s = .next (txRefused s) :=
  (stepWord_cmd 7#8 s).trans (execTxEnd_of_payloadMissing hm ((payloadMissing_iff s).mp hp))

theorem stepWord_txEndTxn_complete {s : State} (hm : s.mode = .txp) (hp : ¬payloadMissing s = true) :
    stepWord (cmdTxn 7#8) s = .next (txSealed s) :=
  (stepWord_cmd 7#8 s).trans (execTxEnd_of_payloadComplete hm (mt (payloadMissing_iff s).mpr hp))

/-- `LENERR`: the registers stay, and there is nothing to pop (R203, R204 (b)). -/
theorem txRefused_popped {s0 s : State} {h : Header} {P : List Byte} (hs : TxpTook s0 h P s) :
    (txRefused s).lenerr = true ∧ (txRefused s).hcnt = 0#5 ∧ (txRefused s).hdrCsum = h.csum ∧
      ∃ t, runTxns (popTxns s0.params.hdrSize) (txRefused s) =
        .next (t, List.replicate s0.params.hdrSize 0#32) ∧ t.underrun = true := by
  obtain ⟨-, -, rfl, hhcnt, hrptr, -, -⟩ := hs
  have hempty : ¬(txRefused s).rptr < (txRefused s).hcnt := by simp [txRefused, hhcnt, hrptr]
  obtain ⟨t, hrun, hunder⟩ := runTxns_popTxns_empty s0.params.hdrSize (txRefused s) hempty
  exact ⟨rfl, hhcnt, rfl, t, hrun, hunder (.inl (hdrSize_pos _))⟩

/-- The checksum stored is that of the span, and the image popped is the sealed header (R203, R204 (a)). -/
theorem txSealed_popped {s0 s : State} {h : Header} {P : List Byte} (hs : TxpTook s0 h P s) :
    (txSealed s).lenerr = false ∧
      (txSealed s).hdrCsum = crc32 (checksumSpan s0.params h P) ∧
      ∃ t, runTxns (popTxns s0.params.hdrSize) (txSealed s) = .next (t,
        (encodeHeader s0.params { h with csum := crc32 (checksumSpan s0.params h P) }).map
          (·.setWidth 32)) ∧ SameSticky s0 t := by
  obtain ⟨-, hparams, rfl, -, -, ⟨hcmd, hseq, hunder⟩, -, hacc, -⟩ := hs
  rw [← hparams]
  have hcrc : crcOut s = crc32 (checksumSpan s.params s.header P) := by rw [crcOut, hacc]; rfl
  have himage : (txSealed s).hbuf = encodeHeader s.params { s.header with csum := crcOut s } := rfl
  rw [hcrc] at himage
  obtain ⟨t, hrun, hcmd', hseq', hunder'⟩ := runTxns_popTxns_image (s := txSealed s) himage
    (length_encodeHeader _ _) rfl rfl
  exact ⟨rfl, hcrc, t, hrun, hcmd'.trans hcmd, hseq'.trans hseq, hunder'.trans hunder⟩

/-- Settles O36: the payload is carried through the flow, and `TX_END` finds it missing just when `seal`
answers `LENERR`. -/
theorem txFlowSealsThePacket : Obligations.TxFlowSealsThePacket := by
  unfold Obligations.TxFlowSealsThePacket
  intro s typ seq len P hidle ht hlen
  obtain ⟨t, reads, hrun, htook⟩ := runTxns_txBegin hidle ht seq len P
  obtain ⟨hm, -, hhdr, -, -, -, hcnt, -, hextra⟩ := id htook
  have hmiss := payloadMissing_iff_length hcnt
  rw [hhdr] at hmiss hextra
  obtain ⟨htyp, hseq, hlen', -⟩ := Header.mk.inj hhdr
  by_cases hp : payloadMissing t = true
  case pos =>
    have hnone : sealPacket s.params typ seq len P = none := if_pos (hmiss.mp hp)
    obtain ⟨hlenerr, hhcnt, hcsum, t', hpop, hunder⟩ := txRefused_popped htook
    have hend := runTxns_singleton (stepWord_txEndTxn_missing hm hp)
    exact ⟨txRefused t, _, t', _, runTxns_append hrun hend, hpop, rfl, rfl, htyp, hseq, hlen', hextra,
      fun _ => ⟨hlenerr, hhcnt, hcsum, rfl, hunder⟩, fun H hH => nomatch hnone.symm.trans hH⟩
  case neg =>
    have hsome : sealPacket s.params typ seq len P = some (encodeHeader s.params
        ⟨typ, seq, len, crc32 (checksumSpan s.params ⟨typ, seq, len, 0#32⟩ P)⟩) :=
      if_neg (mt hmiss.mpr hp)
    obtain ⟨hlenerr, hcsum, t', hpop, hsticky⟩ := txSealed_popped htook
    have hend := runTxns_singleton (stepWord_txEndTxn_complete hm hp)
    refine ⟨txSealed t, _, t', _, runTxns_append hrun hend, hpop, rfl, rfl, htyp, hseq, hlen', hextra,
      fun hno => (nomatch hsome.symm.trans hno), fun H hH => ?_⟩
    obtain rfl : _ = H := Option.some.inj (hsome.symm.trans hH)
    have hfields := headerFields_encodeHeader_append s.params
      ⟨typ, seq, len, crc32 (checksumSpan s.params ⟨typ, seq, len, 0#32⟩ P)⟩ ht []
    rw [List.append_nil] at hfields
    exact ⟨hlenerr, hcsum.trans (congrArg Header.csum hfields).symm, rfl, hsticky⟩

end Sys2Proof.Machine
end
